-- ==== Sys2Proof/Word.lean ====
section
/-! DEFINITION. The word type of the block: every datum it handles is one byte or one bit
(spec/20_memory.md R31, R33); all quantities are unsigned (spec/00_scope.md R7). -/

namespace Sys2Proof

/-- A byte, bit 0 the least significant (R7). -/
abbrev Byte := BitVec 8

end Sys2Proof
end

