-- ==== Sys2Proof/Config.lean ====
section
/-! DEFINITION. What is fixed for one block (the parameters of spec/00_scope.md R5), the input ports
(spec/10_state.md R26), and the one free value: what the environment drives on those ports. -/

namespace Sys2Proof

/-- The range R5 gives the OPEN parameters: `1 <= BURST_LEN <= 127`, `GREETING` non-empty with
`GREET_LEN <= 127`; `K` is any natural number. -/
def paramsInRange (burstLen : Nat) (greeting : List Byte) : Bool :=
  decide (1 ≤ burstLen) && decide (burstLen ≤ 127)
    && decide (1 ≤ greeting.length) && decide (greeting.length ≤ 127)

/-- The OPEN parameters of R5. "A model takes each `OPEN` one as an argument": a state carries them, no
operation writes them, and a statement about every state is a statement for every value of them. -/
structure Params where
  /-- `K`: the value of `dec_count` at which a conversion is forwarded. -/
  K : Nat
  /-- `BURST_LEN`: bytes sent in answer to command 1. -/
  burstLen : Nat
  /-- `GREETING`: the byte string sent in answer to command 2. -/
  greeting : List Byte
  /-- The values are in the ranges R5 gives. -/
  inRange : paramsInRange burstLen greeting = true
  deriving DecidableEq, Repr

/-- The reference values of R5: `K` = 10, `BURST_LEN` = 100, `GREETING` = `48 65 6C 6C 6F 0A`. -/
def Params.reference : Params where
  K := 10
  burstLen := 100
  greeting := [0x48, 0x65, 0x6C, 0x6C, 0x6F, 0x0A]
  inRange := by decide

/-- `N = K + 1`, the decimation ratio (R5, R76). -/
def Params.ratio (p : Params) : Nat := p.K + 1

/-- `GREET_LEN` (R5). -/
def Params.greetLen (p : Params) : Nat := p.greeting.length

/-- `DEC_W`, the width of `dec_count`: `max(1, ceil(log2(K+1)))` (R5, decision D9). -/
def Params.decWidth (p : Params) : Nat := max 1 (Nat.clog 2 (p.K + 1))

/-- `IDX_W`, the width of `idx` (R5, decision D17). -/
def Params.idxWidth : Nat := 7

/-- `CMD_DUMP` (R5, R46). -/
def cmdDump : Byte := 0x01

/-- `CMD_HELLO` (R5, R46). -/
def cmdHello : Byte := 0x02

/-- `CMD_SETDUTY` (R5, R46). -/
def cmdSetduty : Byte := 0x03

/-- The input ports as they stand in one clock cycle: the record `in` of R44's `step(s, in)`. -/
structure Inputs where
  rst : Bool
  tick : Bool
  convDone : Bool
  adcData : Byte
  rxValid : Bool
  rxData : Byte
  txReady : Bool
  deriving DecidableEq, Repr, Inhabited

/-- A cycle in which no agent acts (R54, line `IDLE`). The two data wires are "ignored, `any value`"
where their strobe is 0 (U14 of spec/93_implementation_defined.md). -/
def Inputs.idle : Inputs := ⟨false, false, false, 0, false, 0, false⟩

/-- FREE VALUE: what the agents of R9 drive in cycle `n`, wherever no input of that cycle has been placed in
`State.pending`. "When the agents act is not constrained by any rule", and `r` and `b` are each "a `draw`". It
has no body, so nothing can be proved of its values (assumption 2). -/
opaque Config.environment : Nat → Inputs

end Sys2Proof
end

