-- ==== Sys2Proof/Syntax.lean ====
section
/-! DEFINITION. The operations of the block (spec/30_encoding.md R57): ten mnemonics, one constructor each.
By event: `TICK`, `CONV`, `RX`, `TXACK`, `RESET`; `RX` decodes further to `DUMP`, `HELLO`, `SETDUTY`, `NOP`
(format `CMD`) or `DUTYARG` (format `ARG`). The seven `NOP` rows of the table are "one instruction with one rule"
(R47). -/

namespace Sys2Proof

/-- One operation, with its operand where it has one. -/
inductive Instr where
  /-- `TICK`: one timer overflow (R60). -/
  | tick
  /-- `CONV r`: one completed conversion; `r` is `adc_data` (R70). -/
  | conv (r : Byte)
  /-- `RX b`: the dispatcher takes the byte `b` = `rx_data` (R81). -/
  | rx (b : Byte)
  /-- `TXACK`: the transport takes the offered byte (R97). -/
  | txack
  /-- `RESET`: a clock edge with `rst` = 1 (R120). -/
  | reset
  /-- `DUMP`: command byte 0x01 (R82). -/
  | dump
  /-- `HELLO`: command byte 0x02 (R83). -/
  | hello
  /-- `SETDUTY`: command byte 0x03; its operand is the next received byte (R84). -/
  | setduty
  /-- `NOP b`: any other command byte (R86). -/
  | nop (b : Byte)
  /-- `DUTYARG d`: the byte taken in mode `ARG` (R85). -/
  | dutyarg (d : Byte)
  deriving DecidableEq, Repr

end Sys2Proof
end

