-- ==== Sys2Proof/Machine/State.lean ====
section
/-! DEFINITION. The state of the machine: the ten registers of spec/10_state.md R10, "the complete architectural
state of the block", beside the block's parameters (R5), the inputs its agents supply (R9) and the record of what
an observer has seen (R119), none of which is a register. -/

namespace Sys2Proof.Machine

open Sys2Proof

/-- The four values of the register `mode` (R18). -/
inductive Mode where
  /-- The dispatcher waits for a command byte. -/
  | idle
  /-- It is sending the burst of command 1. -/
  | dump
  /-- It is sending the greeting of command 2. -/
  | hello
  /-- It waits for the operand of command 3. -/
  | arg
  deriving DecidableEq, Repr

/-- The three cases of a byte that leaves on the TX port (R53, R57). The wire carries only the byte; the kind is the
record's remark. -/
inductive TxKind where
  | forwarded
  | burst
  | greeting
  deriving DecidableEq, Repr

/-- One line of a trace: an operation that touched a port, with what was seen of it (R54's notation). -/
inductive TraceLine where
  /-- A `TICK` wrote this level to `pwm_out`. -/
  | tick (level : Bool)
  /-- A `CONV` latched this result. -/
  | conv (r : Byte)
  /-- The block took this byte from the receive stream. -/
  | rx (b : Byte)
  /-- The transport took this byte from the TX port (`TxOut(b)` of R8). -/
  | txack (kind : TxKind) (b : Byte)
  deriving DecidableEq, Repr

/-- The range of `idx` in each `mode` (R18): 0 in `IDLE` and `ARG`, "1 <= `idx` <= `BURST_LEN`" in `DUMP`,
"0 <= `idx` < `GREET_LEN`" in `HELLO`. -/
def dispatcherInRange (p : Params) (mode : Mode) (idx : Nat) : Bool :=
  match mode with
  | .idle => idx == 0
  | .dump => decide (1 ≤ idx) && decide (idx ≤ p.burstLen)
  | .hello => decide (idx < p.greeting.length)
  | .arg => idx == 0

/-- The machine's state: the ten registers of a block (R10; `Block` is that type alone) and, because the host's step takes a state and
nothing else, what R10 makes parameters of the step (assumptions 1, 2, 6) and the observer's record (assumption 3). `dec_count` above `K` and `idx` outside its range have no value here: "a model should make
them unrepresentable ... rather than give them a meaning" (R14; U15 of spec/93_implementation_defined.md). -/
structure State where
  /-- The block's parameters (R5); no operation writes them. -/
  params : Params
  /-- `setpoint` (R11). -/
  setpoint : Byte
  /-- `phase` (R12). -/
  phase : Byte
  /-- `reading` (R13). -/
  reading : Byte
  /-- `dec_count` (R14). -/
  decCount : Nat
  /-- `pwm_out` (R15). -/
  pwmOut : Bool
  /-- `fwd_valid` (R16). -/
  fwdValid : Bool
  /-- `fwd_data` (R16). -/
  fwdData : Byte
  /-- `ovr` (R17). -/
  ovr : Bool
  /-- `mode` (R18). -/
  mode : Mode
  /-- `idx` (R18). -/
  idx : Nat
  /-- MODEL: the inputs already placed for the cycles to come, the next cycle's first (assumption 1). -/
  pending : List Inputs
  /-- MODEL: the number of clock cycles so far, the argument of the free value `Config.environment` (assumption 2). -/
  cycle : Nat
  /-- MODEL: what an observer of the ports has recorded since the last `RESET`, oldest first (assumption 3). -/
  trace : List TraceLine
  /-- "range 0..`K`" (R10, R77). -/
  decCount_le : decCount ≤ params.K
  /-- The invariant of R18. -/
  idx_ok : dispatcherInRange params mode idx = true
  deriving DecidableEq, Repr

/-- Why the machine stops with a fault: there is no reason. "No operation, in any state, with any operand, can fault,
trap, abort or be refused" (R105). -/
inductive Fault where
  deriving DecidableEq, Repr

/-- Why an operation is refused. -/
inductive Refusal where
  /-- Raised only by an arm of `exec` that has no meaning yet; no arm raises it. Safe. -/
  | notModelled (mnemonic : String)
  deriving DecidableEq, Repr

/-- A block with these parameters right after `RESET`: every register at its value of R27; no input placed, no cycle
counted, nothing recorded. -/
def State.resetWith (p : Params) : State where
  params := p
  setpoint := 0x00
  phase := 0x00
  reading := 0x00
  decCount := 0
  pwmOut := false
  fwdValid := false
  fwdData := 0x00
  ovr := false
  mode := .idle
  idx := 0
  pending := []
  cycle := 0
  trace := []
  decCount_le := Nat.zero_le _
  idx_ok := rfl

/-- The machine right after reset, at the reference parameters (R27, R5). -/
def State.reset : State := State.resetWith Params.reference

end Sys2Proof.Machine
end

