-- ==== Sys2Proof/Machine/Flags.lean ====
section
/-! DEFINITION. The one-bit results. The block has no condition codes (spec/10_state.md R21): one comparison, stored
as `pwm_out`, and one sticky flag, `ovr`. -/

namespace Sys2Proof.Machine

open Sys2Proof

/-- `phase < setpoint`, "8-bit unsigned compare" (R60, R61). -/
def comparator (phase setpoint : Byte) : Bool := phase.ult setpoint

/-- `ovr` after a forward: it "becomes 1 when a forward finds the slot full" and no operation makes it 0 again
(R17, R75). -/
def ovrAfterForward (ovr slotFull : Bool) : Bool := ovr || slotFull

end Sys2Proof.Machine
end

