-- ==== Sys2Proof/WellFormed.lean ====
section
/-! DEFINITION. Which operations the encodings can express: `NOP b` with "`b` not 1, 2, 3" (spec/30_encoding.md
R55); "All 256 operand values are legal" for every other operand (R48, R70, R81). -/

namespace Sys2Proof

/-- The operand check of an operation. -/
def WellFormed : Instr → Bool
  | .tick => true
  | .conv _ => true
  | .rx _ => true
  | .txack => true
  | .reset => true
  | .dump => true
  | .hello => true
  | .setduty => true
  | .nop b => b != cmdDump && b != cmdHello && b != cmdSetduty
  | .dutyarg _ => true

end Sys2Proof
end

