-- ==== Sys2Proof/Decode.lean ====
section
/-! DEFINITION. Decoding and encoding (spec/30_encoding.md). The bits carry no mark of their format: "which format
applies is known from where the bits are" (R45), so a decoder is given the format with the bits. -/

namespace Sys2Proof

/-- The four encoding formats (R45). -/
inductive Format where
  /-- A byte on `rx_data` taken with `mode` = `IDLE`. -/
  | cmd
  /-- A byte on `rx_data` taken with `mode` = `ARG`. -/
  | arg
  /-- The event vector of one clock cycle. -/
  | ev
  /-- The `rst` wire in one clock cycle. -/
  | rst
  deriving DecidableEq, Repr

/-- The length of a format in bits (R45). -/
def Format.width : Format → Nat
  | .cmd => 8
  | .arg => 8
  | .ev => 4
  | .rst => 1

/-- The five things a received byte can be (R81). -/
inductive Received where
  | dump
  | hello
  | setduty
  | nop (b : Byte)
  | dutyarg (d : Byte)
  deriving DecidableEq, Repr

/-- A received byte as the operation it is. -/
def Received.toInstr : Received → Instr
  | .dump => .dump
  | .hello => .hello
  | .setduty => .setduty
  | .nop b => .nop b
  | .dutyarg d => .dutyarg d

/-- The command map of R47: the whole byte is compared; "the decoder is total" (R50). -/
def decodeCmd (b : Byte) : Received :=
  if b = cmdDump then .dump
  else if b = cmdHello then .hello
  else if b = cmdSetduty then .setduty
  else .nop b

/-- The one state-dependent decoding rule (R49): format `ARG` where the dispatcher awaits an operand
(`mode` = `ARG`), format `CMD` otherwise. -/
def decodeReceived (operandNext : Bool) (b : Byte) : Received :=
  if operandNext then .dutyarg b else decodeCmd b

/-- The event vector `ev[3:0]` (R52), from the four events decided before the edge. -/
def eventVector (tick conv rx tx : Bool) : BitVec 4 :=
  (if tick then 0x1 else 0x0) ||| (if conv then 0x2 else 0x0)
    ||| (if rx then 0x4 else 0x0) ||| (if tx then 0x8 else 0x0)

/-- "Each bit set selects one operation", and every selected operation is performed "in the order ... `TXACK`,
`TICK`, `CONV`, `RX`" (R52, R38). -/
def decodeEvents (ev : BitVec 4) (adcData rxData : Byte) : List Instr :=
  (if ev.getLsbD 3 then [.txack] else [])
    ++ (if ev.getLsbD 0 then [.tick] else [])
    ++ (if ev.getLsbD 1 then [.conv adcData] else [])
    ++ (if ev.getLsbD 2 then [.rx rxData] else [])

/-- The operations of one clock cycle, decided from the pre-edge outputs and the inputs (R44): `RESET` alone
where `rst` = 1, "every other input ignored". -/
def decodeCycle (txValid rxReady : Bool) (inp : Inputs) : List Instr :=
  if inp.rst then [.reset]
  else decodeEvents
    (eventVector inp.tick inp.convDone (inp.rxValid && rxReady) (txValid && inp.txReady))
    inp.adcData inp.rxData

/-- The bits of one operation: its format, the format's bits right-aligned in a byte, and the byte on the separate
data wire sampled with the event (`adc_data` of `CONV`, `rx_data` of `RX`), which is no part of the format. -/
structure Encoded where
  format : Format
  word : Byte
  operand : Byte
  deriving DecidableEq, Repr

/-- Why a word is not one operation: the convention of the decoder of a single operation, not a behaviour of the block
(assumption 13). -/
inductive DecodeError where
  /-- No event bit is set, or `rst` = 0: the idle cycle, which performs nothing (R52). -/
  | noOperation
  /-- Several event bits are set: a cycle of several operations (R52), which is `decodeEvents`' to read. -/
  | severalOperations
  /-- A bit is set beyond the width of the format (R45). -/
  | tooWide
  deriving DecidableEq, Repr

/-- The one operation a list of performed operations holds. -/
def oneOperation : List Instr → Except DecodeError Instr
  | [] => .error .noOperation
  | [i] => .ok i
  | _ :: _ :: _ => .error .severalOperations

/-- The decoder of one operation's bits; it rejects, by name, only words that are no single operation. No byte of
format `CMD` or `ARG` is rejected (R50). -/
def decode (e : Encoded) : Except DecodeError Instr :=
  if 2 ^ e.format.width ≤ e.word.toNat then .error .tooWide
  else match e.format with
    | .cmd => .ok (decodeCmd e.word).toInstr
    | .arg => .ok (.dutyarg e.word)
    | .ev => oneOperation (decodeEvents (e.word.setWidth 4) e.operand e.operand)
    | .rst => if e.word.getLsbD 0 then .ok .reset else .error .noOperation

/-- The bits of an operation, from the encodings of R45 to R48, R52. -/
def encode : Instr → Encoded
  | .tick => ⟨.ev, 0x1, 0⟩
  | .conv r => ⟨.ev, 0x2, r⟩
  | .rx b => ⟨.ev, 0x4, b⟩
  | .txack => ⟨.ev, 0x8, 0⟩
  | .reset => ⟨.rst, 0x1, 0⟩
  | .dump => ⟨.cmd, 0x01, 0⟩
  | .hello => ⟨.cmd, 0x02, 0⟩
  | .setduty => ⟨.cmd, 0x03, 0⟩
  | .nop b => ⟨.cmd, b, 0⟩
  | .dutyarg d => ⟨.arg, d, 0⟩

/-- The wires of the cycle that presents these bits to the block (R54's table, R45's "where the bits are"). -/
def Encoded.wires (e : Encoded) : Inputs :=
  match e.format with
  | .cmd => { Inputs.idle with rxValid := true, rxData := e.word }
  | .arg => { Inputs.idle with rxValid := true, rxData := e.word }
  | .ev => { Inputs.idle with
      tick := e.word.getLsbD 0, convDone := e.word.getLsbD 1, adcData := e.operand,
      rxValid := e.word.getLsbD 2, rxData := e.operand, txReady := e.word.getLsbD 3 }
  | .rst => { Inputs.idle with rst := e.word.getLsbD 0 }

/-- One row of spec/opcode_table.json: the bits under `mask` equal `value` (the table's "match"). -/
structure TableRow where
  mnemonic : String
  format : Format
  value : Byte
  mask : Byte
  deriving DecidableEq, Repr

/-- "A byte `b` matches when `b and mask == match`" (R47). -/
def TableRow.covers (r : TableRow) (b : Byte) : Bool := (b &&& r.mask) == r.value

/-- The rows of formats `EV`, `RST` and `ARG`. -/
def wireRows : List TableRow :=
  [⟨"TICK", .ev, 0x1, 0x1⟩, ⟨"CONV", .ev, 0x2, 0x2⟩, ⟨"RX", .ev, 0x4, 0x4⟩, ⟨"TXACK", .ev, 0x8, 0x8⟩,
   ⟨"RESET", .rst, 0x1, 0x1⟩, ⟨"DUTYARG", .arg, 0x00, 0x00⟩]

/-- The rows of format `CMD`: the match/mask table of R47. -/
def cmdRows : List TableRow :=
  [⟨"DUMP", .cmd, 0x01, 0xFF⟩, ⟨"HELLO", .cmd, 0x02, 0xFF⟩, ⟨"SETDUTY", .cmd, 0x03, 0xFF⟩,
   ⟨"NOP", .cmd, 0x00, 0xFF⟩, ⟨"NOP", .cmd, 0x04, 0xFC⟩, ⟨"NOP", .cmd, 0x08, 0xF8⟩,
   ⟨"NOP", .cmd, 0x10, 0xF0⟩, ⟨"NOP", .cmd, 0x20, 0xE0⟩, ⟨"NOP", .cmd, 0x40, 0xC0⟩,
   ⟨"NOP", .cmd, 0x80, 0x80⟩]

/-- The sixteen rows of the opcode table. -/
def tableRows : List TableRow := wireRows ++ cmdRows

/-- The table's name of an operation. -/
def Instr.mnemonic : Instr → String
  | .tick => "TICK"
  | .conv _ => "CONV"
  | .rx _ => "RX"
  | .txack => "TXACK"
  | .reset => "RESET"
  | .dump => "DUMP"
  | .hello => "HELLO"
  | .setduty => "SETDUTY"
  | .nop _ => "NOP"
  | .dutyarg _ => "DUTYARG"

/-- The format of a table word of `nbits` bits, by the widths of R45. Eight bits are read as format `CMD`; a word
of four bits is an event vector, one of one bit the `rst` wire (assumption 5). -/
def tableFormat (nbits : Nat) : Option Format :=
  if nbits = 8 then some .cmd
  else if nbits = 4 then some .ev
  else if nbits = 1 then some .rst
  else none

/-- The bits of a table word: its data wires carry 0, for the table gives them no bits. -/
def tableEncoded (nbits w : Nat) : Option Encoded :=
  if w < 2 ^ nbits then (tableFormat nbits).map (fun f => ⟨f, BitVec.ofNat 8 w, 0⟩) else none

/-- The operation the decoder reads from a word numbered as spec/opcode_table.json numbers it. -/
def decodeTableWord (nbits w : Nat) : Option Instr :=
  match tableEncoded nbits w with
  | none => none
  | some e =>
    match decode e with
    | .ok i => some i
    | .error _ => none

end Sys2Proof
end

