-- ==== Sys2Proof/Machine/Operands.lean ====
section
/-! DEFINITION. The operand forms of the block (spec/30_encoding.md R48, R49; spec/42_dispatcher.md R88). There are
three: the whole unsigned byte on `adc_data` "used as is", the duty byte, and `GREETING[i]`. There is no register
number, immediate, addressing mode or memory operand (R46, R19, R24). -/

namespace Sys2Proof.Machine

open Sys2Proof

/-- The duty operand: `zext_8(d)`, the identity at 8 bits (R48, R85). -/
def dutyOperand (d : Byte) : Byte := d.setWidth 8

/-- The sample operand of `CONV`: `adc_data[7:0]`, "a whole unsigned byte used as is" (R48, R70). -/
def sampleOperand (r : Byte) : Byte := r

/-- `GREETING[i]`, "byte `i` of the greeting, `i` from 0" (R8); no byte past its end. -/
def greetingByte (p : Params) (i : Nat) : Option Byte := p.greeting[i]?

/-- The received byte as the dispatcher reads it in its present `mode` (R49). -/
def State.received (s : State) (b : Byte) : Received := decodeReceived (decide (s.mode = .arg)) b

end Sys2Proof.Machine
end

