-- ==== Sys2Proof/Machine/Ops.lean ====
section
/-! DEFINITION. The named operations over the state: one writer per register, the record, the output ports
(spec/10_state.md R26), and the shared parts of the meanings. The block has no memory (R24, R30), so there is no memory
operation; it takes no exception and returns from none (spec/60_exceptions.md R105, R112, R113), so there is no entry and
no return. -/

namespace Sys2Proof.Machine

open Sys2Proof

/-! ### Writers -/

def State.setSetpoint (s : State) (v : Byte) : State := { s with setpoint := v }

def State.setPhase (s : State) (v : Byte) : State := { s with phase := v }

def State.setReading (s : State) (v : Byte) : State := { s with reading := v }

def State.setDecCount (s : State) (n : Nat) (h : n ≤ s.params.K) : State :=
  { s with decCount := n, decCount_le := h }

def State.setPwmOut (s : State) (v : Bool) : State := { s with pwmOut := v }

def State.setFwdValid (s : State) (v : Bool) : State := { s with fwdValid := v }

def State.setFwdData (s : State) (v : Byte) : State := { s with fwdData := v }

def State.setOvr (s : State) (v : Bool) : State := { s with ovr := v }

/-- `mode <- m ; idx <- i`: the dispatcher's only transfer of control (R91). -/
def State.setDispatcher (s : State) (m : Mode) (i : Nat)
    (h : dispatcherInRange s.params m i = true) : State :=
  { s with mode := m, idx := i, idx_ok := h }

/-- Records one line of the trace. -/
def State.record (s : State) (l : TraceLine) : State := { s with trace := s.trace ++ [l] }

/-- Every register at its reset value (R27), whatever the state; the parameters, the placed inputs and the cycle count
are no registers and stay; the record of the run begins anew (R119, R120; assumption 3). -/
def State.resetRegisters (s : State) : State :=
  { State.resetWith s.params with pending := s.pending, cycle := s.cycle }

/-! ### The clock cycle's inputs -/

/-- The inputs of this cycle: the ones placed for it, else what the environment drives (assumptions 1, 2). -/
def State.inputs (s : State) : Inputs :=
  match s.pending with
  | inp :: _ => inp
  | [] => Config.environment s.cycle

/-- The state once this cycle's inputs are sampled: they are no longer to come. -/
def State.sampled (s : State) : State := { s with pending := s.pending.tail, cycle := s.cycle + 1 }

/-! ### The output ports: functions of the registers only (R26) -/

/-- `rx_ready = (mode == IDLE) or (mode == ARG)`. -/
def State.rxReady (s : State) : Bool := decide (s.mode = .idle) || decide (s.mode = .arg)

/-- `tx_valid = fwd_valid or (mode == DUMP) or (mode == HELLO)`. -/
def State.txValid (s : State) : Bool :=
  s.fwdValid || decide (s.mode = .dump) || decide (s.mode = .hello)

/-- The arbitration of R96: "A full forward slot always goes first", then the dispatcher's byte; nothing where neither has
one. -/
def State.txOffer (s : State) : Option (TxKind × Byte) :=
  if s.fwdValid then some (.forwarded, s.fwdData)
  else match s.mode with
    | .dump => some (.burst, s.reading)
    | .hello => (greetingByte s.params s.idx).map (fun b => (.greeting, b))
    | .idle => none
    | .arg => none

/-- The five output ports (R26). `tx_data` is "an absent byte" where nothing is offered (R102). -/
structure Outputs where
  rxReady : Bool
  txValid : Bool
  txData : Option Byte
  pwmOut : Bool
  txOverrun : Bool
  deriving DecidableEq, Repr

/-- `outputs(s)` of R44. -/
def State.outputs (s : State) : Outputs where
  rxReady := s.rxReady
  txValid := s.txValid
  txData := s.txOffer.map Prod.snd
  pwmOut := s.pwmOut
  txOverrun := s.ovr

/-! ### The decimator -/

/-- A forward of `r`: into the slot if it is empty (R74), dropped with `ovr` set if it is full (R75). -/
def State.forward (s : State) (r : Byte) : State :=
  if s.fwdValid then s.setOvr (ovrAfterForward s.ovr s.fwdValid)
  else (s.setFwdData r).setFwdValid true

/-- One notification of the decimator: "if counter == K, forward the current latest-reading byte ... and reset counter to
0; otherwise increment counter" (R70, R72, R73). -/
def State.notify (s : State) (r : Byte) : State :=
  if h : s.decCount = s.params.K then (s.setDecCount 0 (Nat.zero_le _)).forward r
  else s.setDecCount (s.decCount + 1) (Nat.lt_of_le_of_ne s.decCount_le h)

/-! ### The dispatcher -/

/-- `mode <- IDLE ; idx <- 0`. -/
def State.toIdle (s : State) : State := s.setDispatcher .idle 0 rfl

/-- `mode <- ARG`, `idx` at 0 (R84). -/
def State.awaitOperand (s : State) : State := s.setDispatcher .arg 0 rfl

theorem burst_start_ok (p : Params) : dispatcherInRange p .dump p.burstLen = true := by
  have h := p.inRange
  simp only [paramsInRange, Bool.and_eq_true, decide_eq_true_eq] at h
  simp [dispatcherInRange, h.1.1.1]

theorem greeting_start_ok (p : Params) : dispatcherInRange p .hello 0 = true := by
  have h := p.inRange
  simp only [paramsInRange, Bool.and_eq_true, decide_eq_true_eq] at h
  simp only [dispatcherInRange, decide_eq_true_eq]
  exact h.1.2

/-- `mode <- DUMP ; idx <- BURST_LEN` (R82). -/
def State.startBurst (s : State) : State :=
  s.setDispatcher .dump s.params.burstLen (burst_start_ok s.params)

/-- `mode <- HELLO ; idx <- 0` (R83). -/
def State.startGreeting (s : State) : State :=
  s.setDispatcher .hello 0 (greeting_start_ok s.params)

theorem burst_next_ok {p : Params} {i : Nat} (h : dispatcherInRange p .dump i = true) (h1 : i ≠ 1) :
    dispatcherInRange p .dump (i - 1) = true := by
  simp only [dispatcherInRange, Bool.and_eq_true, decide_eq_true_eq] at h ⊢
  omega

theorem greeting_next_ok {p : Params} {i : Nat} (h : dispatcherInRange p .hello i = true)
    (h1 : i ≠ p.greetLen - 1) : dispatcherInRange p .hello (i + 1) = true := by
  simp only [dispatcherInRange, Params.greetLen, decide_eq_true_eq] at h h1 ⊢
  omega

/-- The dispatcher after a burst byte is taken (R87, R97). -/
def State.burstTaken (s : State) (hm : s.mode = .dump) : State :=
  if h : s.idx = 1 then s.toIdle
  else s.setDispatcher .dump (s.idx - 1) (burst_next_ok (hm ▸ s.idx_ok) h)

/-- The dispatcher after a greeting byte is taken (R88, R97). -/
def State.greetingTaken (s : State) (hm : s.mode = .hello) : State :=
  if h : s.idx = s.params.greetLen - 1 then s.toIdle
  else s.setDispatcher .hello (s.idx + 1) (greeting_next_ok (hm ▸ s.idx_ok) h)

/-! ### The TX port -/

/-- The registers after the transport takes the offered byte (R97): the slot empties, or else the dispatcher moves on. -/
def State.taken (s : State) : State :=
  if s.fwdValid then s.setFwdValid false
  else if hd : s.mode = .dump then s.burstTaken hd
  else if hh : s.mode = .hello then s.greetingTaken hh
  else s

end Sys2Proof.Machine
end

