-- ==== Sys2Proof/Machine/Decimator.lean ====
section
/-! DEFINITION. The Sample Decimator (spec/41_decimator.md): `CONV`. -/

namespace Sys2Proof.Machine

open Sys2Proof

/-- `CONV r` (R70): the latch (R71) and the decimator's notification, one atomic operation. -/
def execConv (r : Byte) (s : State) : Host.Outcome State Fault Refusal :=
  .next (((s.setReading (sampleOperand r)).notify (sampleOperand r)).record (.conv r))

end Sys2Proof.Machine
end

