-- ==== Sys2Proof/Machine/Dispatcher.lean ====
section
/-! DEFINITION. The command dispatcher (spec/42_dispatcher.md): `RX` and the five things a received byte can be. Each
happens only in the mode R80's table gives it, for "the transitions are exactly these"; elsewhere no such byte is taken
and nothing changes (assumption 4). -/

namespace Sys2Proof.Machine

open Sys2Proof

/-- `DUMP` (R82): command byte 0x01 taken in `IDLE`. -/
def execDump (s : State) : Host.Outcome State Fault Refusal :=
  .next (if s.mode = .idle then s.startBurst.record (.rx cmdDump) else s)

/-- `HELLO` (R83): command byte 0x02 taken in `IDLE`. -/
def execHello (s : State) : Host.Outcome State Fault Refusal :=
  .next (if s.mode = .idle then s.startGreeting.record (.rx cmdHello) else s)

/-- `SETDUTY` (R84): command byte 0x03 taken in `IDLE`; `setpoint` waits for the operand. -/
def execSetduty (s : State) : Host.Outcome State Fault Refusal :=
  .next (if s.mode = .idle then s.awaitOperand.record (.rx cmdSetduty) else s)

/-- `NOP` (R86): "no register changes; ... the byte is consumed". -/
def execNop (b : Byte) (s : State) : Host.Outcome State Fault Refusal :=
  .next (if s.mode = .idle then s.record (.rx b) else s)

/-- `DUTYARG d` (R85): the byte taken in `ARG`; `setpoint <- zext_8(d) ; mode <- IDLE`. -/
def execDutyarg (d : Byte) (s : State) : Host.Outcome State Fault Refusal :=
  .next (if s.mode = .arg then (s.setSetpoint (dutyOperand d)).toIdle.record (.rx d) else s)

/-- `RX b` (R81): the byte, read in the present mode, is one of the five. With `rx_ready` = 0 "`RX` is not performed ... an
offered byte simply waits in the transport". -/
def execRx (b : Byte) (s : State) : Host.Outcome State Fault Refusal :=
  if s.rxReady then
    match s.received b with
    | .dump => execDump s
    | .hello => execHello s
    | .setduty => execSetduty s
    | .nop c => execNop c s
    | .dutyarg d => execDutyarg d s
  else .next s

end Sys2Proof.Machine
end

