-- ==== Sys2Proof/Machine/Pwm.lean ====
section
/-! DEFINITION. The PWM Phase Engine (spec/40_pwm.md): `TICK`. -/

namespace Sys2Proof.Machine

open Sys2Proof

/-- `TICK` (R60): `pwm_out <- (phase < setpoint)` with the pre-increment phase, then `phase <- (phase + 1) mod 256`. -/
def execTick (s : State) : Host.Outcome State Fault Refusal :=
  .next (((s.setPwmOut (comparator s.phase s.setpoint)).setPhase (s.phase + 1)).record
    (.tick (comparator s.phase s.setpoint)))

end Sys2Proof.Machine
end

