-- ==== Sys2Proof/Machine/Reset.lean ====
section
/-! DEFINITION. Reset (spec/70_reset_and_hazards.md): `RESET`. -/

namespace Sys2Proof.Machine

open Sys2Proof

/-- `RESET` (R120): "every register takes its reset value ... whatever the state and the other inputs are". -/
def execReset (s : State) : Host.Outcome State Fault Refusal :=
  .next s.resetRegisters

end Sys2Proof.Machine
end

