-- ==== Sys2Proof/Machine/TxPort.lean ====
section
/-! DEFINITION. The TX port (spec/43_txport.md): `TXACK`. -/

namespace Sys2Proof.Machine

open Sys2Proof

/-- `TXACK` (R97): the offered byte leaves, and its source moves on. Where nothing is offered there is no handshake and
nothing changes (assumption 4). -/
def execTxack (s : State) : Host.Outcome State Fault Refusal :=
  match s.txOffer with
  | some (kind, b) => .next (s.taken.record (.txack kind b))
  | none => .next s

end Sys2Proof.Machine
end

