-- ==== Sys2Proof/Machine/Dispatch.lean ====
section
/-! DEFINITION. The meaning of every operation, one arm each. -/

namespace Sys2Proof.Machine

open Sys2Proof

def exec (i : Instr) (s : State) : Host.Outcome State Fault Refusal :=
  match i with
  | .tick => Sys2Proof.Machine.execTick s
  | .conv r => Sys2Proof.Machine.execConv r s
  | .rx b => Sys2Proof.Machine.execRx b s
  | .txack => Sys2Proof.Machine.execTxack s
  | .reset => Sys2Proof.Machine.execReset s
  | .dump => Sys2Proof.Machine.execDump s
  | .hello => Sys2Proof.Machine.execHello s
  | .setduty => Sys2Proof.Machine.execSetduty s
  | .nop b => Sys2Proof.Machine.execNop b s
  | .dutyarg d => Sys2Proof.Machine.execDutyarg d s

end Sys2Proof.Machine
end

