-- ==== Sys2Proof/Machine/Step.lean ====
section
/-! DEFINITION. One step: one rising clock edge (spec/20_memory.md R44). -/

namespace Sys2Proof.Machine

open Sys2Proof

/-- The operations of one cycle "performed one after another" (R38); each reads the state the ones before it left (R37). -/
def runOps : List Instr → State → Host.Outcome State Fault Refusal
  | [], s => .next s
  | i :: is, s =>
    match exec i s with
    | .next t => runOps is t
    | .fault r => .fault r
    | .refused r => .refused r

/-- The operations of this cycle, "decided from the pre-edge state and the inputs ..., before any of them is applied"
(R38). -/
def State.cycleOps (s : State) : List Instr := decodeCycle s.txValid s.rxReady s.inputs

/-- `step(s, in)` of R44, `in` being this cycle's inputs. -/
def step (s : State) : Host.Outcome State Fault Refusal := runOps s.cycleOps s.sampled

/-- The handshake conditions the bits need before the edge: a command byte is taken in `IDLE`, an `RX` needs `rx_ready`, a
`TXACK` needs an offered byte (R49, R52). A condition that holds already changes nothing. -/
def State.readyFor (s : State) (e : Encoded) : State :=
  match e.format with
  | .cmd => if s.mode = .idle then s else s.toIdle
  | .arg => if s.mode = .arg then s else s.awaitOperand
  | .ev =>
    let s1 := if e.word.getLsbD 2 && !s.rxReady then s.toIdle else s
    if e.word.getLsbD 3 && !s1.txValid then s1.setFwdValid true else s1
  | .rst => s

/-- The block fetches no program (R20, R41): an operation is brought about by the wires of a cycle. This places, as the next
cycle's inputs, the wires that present the table word, with the handshake it needs (assumption 5). A word of no format is
placed as an idle cycle. -/
def State.withFetchWord (s : State) (nbits w : Nat) : State :=
  match tableEncoded nbits w with
  | some e =>
    let s' := s.readyFor e
    { s' with pending := e.wires :: s'.pending }
  | none => { s with pending := Inputs.idle :: s.pending }

end Sys2Proof.Machine
end

