-- ==== Sys2Proof/Machine/Block.lean ====
section
/-! DEFINITION. The state type of spec/10_state.md R10, "the product of these ten fields", and the block's behaviour at one clock
edge as R44 (spec/20_memory.md) writes it, the configuration and the inputs being parameters of the step. `State` surrounds such a
block with what the host's `step : State → Outcome` must carry beside it; `Obligations.BlockIsTheTenRegisters` says that the
machine's step is this one. -/

namespace Sys2Proof.Machine

open Sys2Proof

/-- The complete architectural state of a block with parameters `p`: the ten registers of R10 and nothing else, each in its range
(R14, R18). -/
structure Block (p : Params) where
  setpoint : Byte
  phase : Byte
  reading : Byte
  decCount : Nat
  pwmOut : Bool
  fwdValid : Bool
  fwdData : Byte
  ovr : Bool
  mode : Mode
  idx : Nat
  decCount_le : decCount ≤ p.K
  idx_ok : dispatcherInRange p mode idx = true
  deriving DecidableEq, Repr

theorem idle_ok (p : Params) : dispatcherInRange p .idle 0 = true := rfl

theorem arg_ok (p : Params) : dispatcherInRange p .arg 0 = true := rfl

variable {p : Params}

/-- The registers of a state: all of it that is the block's. -/
def State.block (s : State) : Block s.params where
  setpoint := s.setpoint
  phase := s.phase
  reading := s.reading
  decCount := s.decCount
  pwmOut := s.pwmOut
  fwdValid := s.fwdValid
  fwdData := s.fwdData
  ovr := s.ovr
  mode := s.mode
  idx := s.idx
  decCount_le := s.decCount_le
  idx_ok := s.idx_ok

/-- The state with these registers; what surrounds the block stays. -/
def State.withBlock (s : State) (b : Block s.params) : State :=
  { s with
    setpoint := b.setpoint, phase := b.phase, reading := b.reading, decCount := b.decCount,
    pwmOut := b.pwmOut, fwdValid := b.fwdValid, fwdData := b.fwdData, ovr := b.ovr,
    mode := b.mode, idx := b.idx, decCount_le := b.decCount_le, idx_ok := b.idx_ok }

/-- The state of a block with these inputs for its next cycle, and nothing else around it. -/
def Block.facing (b : Block p) (inp : Inputs) : State :=
  { (State.resetWith p).withBlock b with pending := [inp] }

/-- `RESET_STATE` (R27). -/
def Block.reset (p : Params) : Block p := (State.resetWith p).block

/-- `TICK(s)` (R60). -/
def Block.tick (b : Block p) : Block p :=
  { b with pwmOut := comparator b.phase b.setpoint, phase := b.phase + 1 }

/-- `CONV(s, r)` (R70). -/
def Block.conv (b : Block p) (r : Byte) : Block p :=
  if h : b.decCount = p.K then
    if b.fwdValid then { b with reading := r, decCount := 0, decCount_le := Nat.zero_le _, ovr := true }
    else { b with reading := r, decCount := 0, decCount_le := Nat.zero_le _, fwdValid := true, fwdData := r }
  else { b with
    reading := r, decCount := b.decCount + 1, decCount_le := Nat.lt_of_le_of_ne b.decCount_le h }

/-- `RX(s, b)` (R81, with R82 to R86); nothing where no byte is taken. -/
def Block.rx (b : Block p) (d : Byte) : Block p :=
  match b.mode with
  | .idle =>
    if d = 0x01 then { b with mode := .dump, idx := p.burstLen, idx_ok := burst_start_ok p }
    else if d = 0x02 then { b with mode := .hello, idx := 0, idx_ok := greeting_start_ok p }
    else if d = 0x03 then { b with mode := .arg, idx := 0, idx_ok := arg_ok p }
    else b
  | .arg => { b with setpoint := d, mode := .idle, idx := 0, idx_ok := idle_ok p }
  | .dump => b
  | .hello => b

/-- `TXACK(s)` (R97); nothing where nothing is offered. -/
def Block.txack (b : Block p) : Block p :=
  if b.fwdValid then { b with fwdValid := false }
  else match hm : b.mode with
    | .dump =>
      if h : b.idx = 1 then { b with mode := .idle, idx := 0, idx_ok := idle_ok p }
      else { b with mode := .dump, idx := b.idx - 1, idx_ok := burst_next_ok (hm ▸ b.idx_ok) h }
    | .hello =>
      if h : b.idx = p.greetLen - 1 then { b with mode := .idle, idx := 0, idx_ok := idle_ok p }
      else { b with mode := .hello, idx := b.idx + 1, idx_ok := greeting_next_ok (hm ▸ b.idx_ok) h }
    | .idle => b
    | .arg => b

/-- `step(s, in)` of R44, line by line: the events are decided from `b`, before anything is applied. -/
def Block.step (b : Block p) (inp : Inputs) : Block p :=
  if inp.rst then Block.reset p
  else
    let evTx := (b.fwdValid || decide (b.mode = .dump) || decide (b.mode = .hello)) && inp.txReady
    let evRx := inp.rxValid && (decide (b.mode = .idle) || decide (b.mode = .arg))
    let b1 := if evTx then b.txack else b
    let b2 := if inp.tick then b1.tick else b1
    let b3 := if inp.convDone then b2.conv inp.adcData else b2
    if evRx then b3.rx inp.rxData else b3

end Sys2Proof.Machine
end

