-- ==== Sys2Proof/Safety.lean ====
section
/-! DEFINITION. The terms in which statements about a run are made: what an observer reads from the record of a run, what
the rules say it should find there, and what counts as a run that lost nothing (spec/60_exceptions.md R107, R119). -/

namespace Sys2Proof.Safety

open Sys2Proof Sys2Proof.Machine

/-! ### The observer's record -/

/-- The levels written to `pwm_out` by the `TICK`s of a record (R119). -/
def pwmLevels (l : List TraceLine) : List Bool :=
  l.filterMap (fun
    | .tick level => some level
    | _ => none)

/-- The results of the `CONV`s of a record, numbered from 0 as R76 numbers them. -/
def conversions (l : List TraceLine) : List Byte :=
  l.filterMap (fun
    | .conv r => some r
    | _ => none)

/-- The bytes the block took from the receive stream, in order (R41). -/
def receivedBytes (l : List TraceLine) : List Byte :=
  l.filterMap (fun
    | .rx b => some b
    | _ => none)

/-- The bytes transferred on the TX port, in order (R99). -/
def sentBytes (l : List TraceLine) : List Byte :=
  l.filterMap (fun
    | .txack _ b => some b
    | _ => none)

/-- The transferred bytes of one kind, in order. -/
def sentOfKind (k : TxKind) (l : List TraceLine) : List Byte :=
  l.filterMap (fun
    | .txack k' b => if k' = k then some b else none
    | _ => none)

/-! ### What the rules say it should hold -/

/-- The bytes due to be forwarded: of the conversions numbered from 0, "exactly those numbered `n` with
`n mod (K+1) == K`" (R76). -/
def dueForwards (K : Nat) (convs : List Byte) : List Byte :=
  (convs.zipIdx.filter (fun c => c.2 % (K + 1) == K)).map Prod.fst

/-- What the commands of a receive stream amount to, read byte by byte under R49: whether an operand is awaited, how many
`DUMP` and `HELLO` commands have been taken, and the last duty operand (0 before the first, R27). -/
structure Commands where
  awaiting : Bool
  dumps : Nat
  hellos : Nat
  duty : Byte
  deriving DecidableEq, Repr

/-- One more received byte. -/
def Commands.take (c : Commands) (b : Byte) : Commands :=
  if c.awaiting then { c with awaiting := false, duty := b }
  else if b = 0x01 then { c with dumps := c.dumps + 1 }
  else if b = 0x02 then { c with hellos := c.hellos + 1 }
  else if b = 0x03 then { c with awaiting := true }
  else c

/-- The commands of a whole receive stream since reset. -/
def commands (bytes : List Byte) : Commands := bytes.foldl Commands.take ⟨false, 0, 0, 0⟩

/-! ### Ledgers: the record and the registers agree -/

/-- The byte in the forward slot, if any. -/
def slot (s : State) : List Byte := if s.fwdValid then [s.fwdData] else []

/-- The PWM engine's ledger: `phase` counts the `TICK`s since reset modulo 256 (R62, R66), and the pin shows the level of the
last one, 0 before the first (R67). -/
def PwmLedger (s : State) : Prop :=
  s.phase.toNat = (pwmLevels s.trace).length % 256
    ∧ s.pwmOut = (pwmLevels s.trace).getLast?.getD false

/-- The decimator's ledger: `dec_count` counts the `CONV`s since reset modulo `K + 1` (R76, R115), `reading` is the last result
(R13), the forwarded bytes are some of those due, in order, and all of them unless `ovr` is set, which says that at least one was
lost (R75, R99, R101, R107). -/
def DecimatorLedger (s : State) : Prop :=
  s.decCount = (conversions s.trace).length % (s.params.K + 1)
    ∧ s.reading = (conversions s.trace).getLast?.getD 0x00
    ∧ (sentOfKind .forwarded s.trace ++ slot s).Sublist
        (dueForwards s.params.K (conversions s.trace))
    ∧ (s.ovr = false →
        sentOfKind .forwarded s.trace ++ slot s = dueForwards s.params.K (conversions s.trace))
    ∧ (s.ovr = true →
        (sentOfKind .forwarded s.trace ++ slot s).length
          < (dueForwards s.params.K (conversions s.trace)).length)

/-- The dispatcher's ledger: `setpoint` is the last duty operand (R89), an operand is awaited exactly in `ARG` (R49), each `DUMP`
is answered by `BURST_LEN` bytes and each `HELLO` by the greeting in index order, less what a response still in progress has yet
to send (R87, R88, R101). -/
def DispatcherLedger (s : State) : Prop :=
  s.setpoint = (commands (receivedBytes s.trace)).duty
    ∧ (commands (receivedBytes s.trace)).awaiting = decide (s.mode = .arg)
    ∧ (sentOfKind .burst s.trace).length + (if s.mode = .dump then s.idx else 0)
        = s.params.burstLen * (commands (receivedBytes s.trace)).dumps
    ∧ sentOfKind .greeting s.trace
          ++ (if s.mode = .hello then s.params.greeting.drop s.idx else [])
        = (List.replicate (commands (receivedBytes s.trace)).hellos s.params.greeting).flatten

/-! ### Runs -/

/-- A run of `n` clock cycles from `s` ends in `t` (R119: a claim is about a finite prefix). -/
def Reaches (n : Nat) (s t : State) : Prop := Host.Core.run Sys2Proof.core n s = .next t

/-- No byte of the continuous stream was lost since reset: "exactly `ovr` = 0" (R107). -/
def Lossless (s : State) : Prop := s.ovr = false

/-- A safe step: the machine goes on (R105, R119: there is no terminal state). -/
def StepsOn (s : State) : Prop := ∃ t, step s = .next t

end Sys2Proof.Safety
end

