-- ==== Sys2Proof/Certificates/Slice0/Obligations.lean ====
section
/-! DEFINITION. The statements for the provers. They quantify over every state, hence over every value of the parameters
`K`, `BURST_LEN` and `GREETING` (spec/00_scope.md R5) and over every input an environment may supply. Clauses about `trace`,
`pending`, `cycle` and `params` are about the model's own fields (assumptions 3, 1, 2, 6), which no rule names. -/

namespace Sys2Proof.Frame

open Sys2Proof Sys2Proof.Machine Sys2Proof.Safety

/-! ### What an operation leaves unchanged -/

/-- The parameters, the placed inputs and the cycle count. -/
def Surroundings (s t : State) : Prop :=
  t.params = s.params ∧ t.pending = s.pending ∧ t.cycle = s.cycle

/-- `phase` and `pwm_out`. -/
def Pwm (s t : State) : Prop := t.phase = s.phase ∧ t.pwmOut = s.pwmOut

/-- `reading` and `dec_count`. -/
def Sampler (s t : State) : Prop := t.reading = s.reading ∧ t.decCount = s.decCount

/-- `fwd_valid` and `fwd_data`. -/
def Slot (s t : State) : Prop := t.fwdValid = s.fwdValid ∧ t.fwdData = s.fwdData

/-- `mode` and `idx`. -/
def Sequencing (s t : State) : Prop := t.mode = s.mode ∧ t.idx = s.idx

/-- All ten registers (R10). -/
def Registers (s t : State) : Prop :=
  t.setpoint = s.setpoint ∧ Pwm s t ∧ Sampler s t ∧ Slot s t ∧ t.ovr = s.ovr ∧ Sequencing s t

/-- What a received byte leaves unchanged: all but `setpoint`, `mode`, `idx` and the record. -/
def OutsideDispatcher (s t : State) : Prop :=
  Surroundings s t ∧ Pwm s t ∧ Sampler s t ∧ Slot s t ∧ t.ovr = s.ovr

/-- What a `CONV` leaves unchanged: all but `reading`, `dec_count`, the slot, `ovr` and the record. -/
def OutsideDecimator (s t : State) : Prop :=
  Surroundings s t ∧ Pwm s t ∧ t.setpoint = s.setpoint ∧ Sequencing s t

/-- Every register at its reset value (R27). -/
def AtReset (t : State) : Prop :=
  t.setpoint = 0x00 ∧ t.phase = 0x00 ∧ t.reading = 0x00 ∧ t.decCount = 0 ∧ t.pwmOut = false
    ∧ t.fwdValid = false ∧ t.fwdData = 0x00 ∧ t.ovr = false ∧ t.mode = .idle ∧ t.idx = 0

/-! ### How a cycle is made of operations -/

/-- One more operation of a cycle, where its event is true: a line `s' = ev ? OP(s) : s` of R44. -/
def perform (event : Bool) (i : Instr) (o : Host.Outcome State Fault Refusal) :
    Host.Outcome State Fault Refusal :=
  if event then
    match o with
    | .next t => exec i t
    | .fault r => .fault r
    | .refused r => .refused r
  else o

/-- The pre-edge condition under which the wires of an operation bring it about: a handshake has two sides (R26), and a
command byte is one only in `IDLE`, an operand only in `ARG` (R49). -/
def Enabled (i : Instr) (s : State) : Prop :=
  match i with
  | .tick => True
  | .conv _ => True
  | .rx _ => s.rxReady = true
  | .txack => s.txValid = true
  | .reset => True
  | .dump => s.mode = .idle
  | .hello => s.mode = .idle
  | .setduty => s.mode = .idle
  | .nop _ => s.mode = .idle
  | .dutyarg _ => s.mode = .arg

/-- Two outcomes that are next states with the same registers. -/
def AgreeOnRegisters (o o' : Host.Outcome State Fault Refusal) : Prop :=
  ∃ t t', o = .next t ∧ o' = .next t' ∧ Registers t t'

/-- Two outcomes that are next states with the same registers, the same levels written to the pin, the same results latched, the
same bytes received and the same bytes sent. -/
def AgreeOnRegistersAndPorts (o o' : Host.Outcome State Fault Refusal) : Prop :=
  ∃ t t', o = .next t ∧ o' = .next t' ∧ Registers t t'
    ∧ pwmLevels t.trace = pwmLevels t'.trace ∧ conversions t.trace = conversions t'.trace
    ∧ receivedBytes t.trace = receivedBytes t'.trace ∧ sentBytes t.trace = sentBytes t'.trace

/-- The operation is a conversion. -/
def isConv : Instr → Bool
  | .tick => false
  | .conv _ => true
  | .rx _ => false
  | .txack => false
  | .reset => false
  | .dump => false
  | .hello => false
  | .setduty => false
  | .nop _ => false
  | .dutyarg _ => false

/-- R65's "`setpoint` = `S` is constant over" the ticks of a run: each `TICK` of `ops`, run from `s`, finds `setpoint` = `S`. -/
def TicksFind (S : Byte) : List Instr → State → Prop
  | [], _ => True
  | i :: is, s => (i = .tick → s.setpoint = S) ∧ ∀ t, exec i s = .next t → TicksFind S is t

end Sys2Proof.Frame

open Sys2Proof Sys2Proof.Machine Sys2Proof.Safety Sys2Proof.Frame

/-! ## The PWM Phase Engine -/

/-- R60, R61, R62: `TICK` latches the strict unsigned comparison of the pre-increment `phase` with `setpoint`, advances `phase` by
1 modulo 256 and touches nothing else; it happens at exactly the edges with `tick` = 1 and `rst` = 0; nothing but `TICK` and
`RESET` changes `phase`. -/
def Obligations.TickLatchesThenAdvances : Prop :=
  ∀ s : State,
    (∃ t, exec .tick s = .next t
      ∧ t.pwmOut = decide (s.phase.toNat < s.setpoint.toNat)
      ∧ t.phase.toNat = (s.phase.toNat + 1) % 256
      ∧ (s.phase = s.setpoint → t.pwmOut = false)
      ∧ (s.setpoint = 0 → t.pwmOut = false)
      ∧ (s.phase = 255 → t.pwmOut = false ∧ t.phase = 0)
      ∧ t.trace = s.trace ++ [.tick t.pwmOut]
      ∧ t.setpoint = s.setpoint ∧ Sampler s t ∧ Slot s t ∧ t.ovr = s.ovr ∧ Sequencing s t
      ∧ Surroundings s t)
    ∧ (Instr.tick ∈ s.cycleOps ↔ s.inputs.tick = true ∧ s.inputs.rst = false)
    ∧ ∀ i t, exec i s = .next t → t.phase ≠ s.phase → i = .tick ∨ i = .reset

/-- R65, the duty-cycle law: over any 256 ticks with no `RESET` among them that all find `setpoint` = `S`, whatever other operations,
received bytes included, come between them, exactly `S` ticks set the pin; tick number `n` sets it exactly where its pre-tick phase
is below `S`, so `S` = 0 sets none and `S` = 255 all but the tick with pre-tick phase 255; and `phase` has its starting value again. -/
def Obligations.DutyCycleLaw : Prop :=
  ∀ (ops : List Instr) (S : Byte) (s : State),
    (∀ i ∈ ops, i ≠ .reset) → TicksFind S ops s →
    (ops.filter (fun i => i == .tick)).length = 256 →
    ∃ (t : State) (levels : List Bool), runOps ops s = .next t
      ∧ t.phase = s.phase
      ∧ pwmLevels t.trace = pwmLevels s.trace ++ levels
      ∧ levels.length = 256
      ∧ levels.count true = S.toNat
      ∧ levels.count false = 256 - S.toNat
      ∧ ∀ n, n < 256 → levels[n]? = some (decide ((s.phase.toNat + n) % 256 < S.toNat))

/-- R66: after any 256 ticks `phase` has its starting value again, and with `setpoint` constant tick number `n` writes the same
level as tick number `n + 256`; from `phase` = 0 it writes 1 exactly when `n mod 256 < S`. -/
def Obligations.PwmPeriodIs256Ticks : Prop :=
  ∀ (n : Nat) (s : State),
    ∃ (t : State) (levels : List Bool), runOps (List.replicate n .tick) s = .next t
      ∧ pwmLevels t.trace = pwmLevels s.trace ++ levels
      ∧ levels.length = n
      ∧ (n = 256 → t.phase = s.phase)
      ∧ (∀ k, k + 256 < n → levels[k + 256]? = levels[k]?)
      ∧ (s.phase = 0 → ∀ k, k < n → levels[k]? = some (decide (k % 256 < s.setpoint.toNat)))

/-- R64: in a period where `setpoint` changes from `A` to `B` at `phase` = `c`, the pin is set by `min(A, c) + max(0, B - c)` ticks;
the period after it gives `B`. -/
def Obligations.PulseShapeOfAChangedPeriod : Prop :=
  ∀ (s : State) (B : Byte) (c : Nat), s.phase = 0 → s.mode = .arg → c ≤ 256 →
    ∃ (t : State) (during after : List Bool),
      runOps (List.replicate c .tick ++ [.dutyarg B] ++ List.replicate (256 - c) .tick
        ++ List.replicate 256 .tick) s = .next t
      ∧ pwmLevels t.trace = pwmLevels s.trace ++ during ++ after
      ∧ during.length = 256
      ∧ during.count true = min s.setpoint.toNat c + (B.toNat - c)
      ∧ after.count true = B.toNat

/-- R62, R66, R67 as an invariant: every step keeps `phase` equal to the number of ticks since reset modulo 256, and the pin at
the level the last tick wrote. -/
def Obligations.PwmLedgerIsKept : Prop :=
  ∀ s : State, PwmLedger s → ∃ t, step s = .next t ∧ PwmLedger t

/-! ## The Sample Decimator -/

/-- R70 to R73: `CONV r` latches `r` whatever the counter is; below `K` it adds 1 to `dec_count` and forwards nothing; at `K` it sets
`dec_count` to 0 and places `r` in the slot if that is empty, else keeps the older byte and sets `ovr`. It happens at exactly the
edges with `conv_done` = 1 and `rst` = 0, with `r` = `adc_data`. -/
def Obligations.ConvLatchesAndDecimates : Prop :=
  ∀ (r : Byte) (s : State),
    (∃ t, exec (.conv r) s = .next t
      ∧ t.reading = r
      ∧ (s.decCount ≠ s.params.K →
          t.decCount = s.decCount + 1 ∧ t.decCount ≤ s.params.K ∧ Slot s t ∧ t.ovr = s.ovr)
      ∧ (s.decCount = s.params.K → t.decCount = 0)
      ∧ (s.decCount = s.params.K → s.fwdValid = false →
          t.fwdValid = true ∧ t.fwdData = r ∧ t.ovr = s.ovr)
      ∧ (s.decCount = s.params.K → s.fwdValid = true → Slot s t ∧ t.ovr = true)
      ∧ t.trace = s.trace ++ [.conv r]
      ∧ OutsideDecimator s t)
    ∧ (Instr.conv r ∈ s.cycleOps ↔
        s.inputs.convDone = true ∧ s.inputs.rst = false ∧ s.inputs.adcData = r)

/-- R77: `dec_count` is in 0..`K` after reset and after every operation; below `K` a conversion takes it up by one, from `K` to 0,
and nothing but `CONV` and `RESET` moves it; with `K` = 0 it is always 0 and every conversion is forwarded. -/
def Obligations.DecCountRange : Prop :=
  (∀ p : Params, (State.resetWith p).decCount = 0)
    ∧ ∀ (i : Instr) (s : State), ∃ t, exec i s = .next t
      ∧ t.decCount ≤ t.params.K
      ∧ (∀ r, i = .conv r →
          t.decCount = if s.decCount < s.params.K then s.decCount + 1 else 0)
      ∧ ((∀ r, i ≠ .conv r) → i ≠ .reset → t.decCount = s.decCount)
      ∧ (s.params.K = 0 → t.decCount = 0)
      ∧ (s.params.K = 0 → s.fwdValid = false → ∀ r, i = .conv r → t.fwdValid = true ∧ t.fwdData = r)

/-- R17: `ovr` becomes 1 exactly when a forward finds the slot full, only `RESET` makes it 0 again, its value is the port
`tx_overrun`, and no operation reads it: with another value of `ovr` every operation does the same to every other register and
records the same. -/
def Obligations.OverrunFlagIsStickyAndUnread : Prop :=
  ∀ (i : Instr) (s : State), ∃ t, exec i s = .next t
    ∧ (s.ovr = false → t.ovr = true →
        ∃ r, i = .conv r ∧ s.decCount = s.params.K ∧ s.fwdValid = true)
    ∧ (∀ r, i = .conv r → s.decCount = s.params.K → s.fwdValid = true → t.ovr = true)
    ∧ (s.ovr = true → t.ovr = false → i = .reset)
    ∧ s.outputs.txOverrun = s.ovr
    ∧ ∀ v : Bool, ∃ u, exec i (s.setOvr v) = .next u
        ∧ u.setpoint = t.setpoint ∧ Pwm t u ∧ Sampler t u ∧ Slot t u ∧ Sequencing t u
        ∧ Surroundings t u ∧ u.trace = t.trace

/-- R75, R128: from a forward on (`dec_count` = 0), no overrun happens before `K + 1` further conversions, whatever else the block does
and whether or not the transport takes the byte. -/
def Obligations.OverrunNeedsKPlusOneConversions : Prop :=
  ∀ (ops : List Instr) (s : State),
    s.decCount = 0 → s.ovr = false →
    (ops.filter isConv).length ≤ s.params.K →
    ∃ t, runOps ops s = .next t ∧ t.ovr = false

/-- R76, R99, R101, R107 as an invariant: every step keeps the decimator's ledger. -/
def Obligations.DecimatorLedgerIsKept : Prop :=
  ∀ s : State, DecimatorLedger s → ∃ t, step s = .next t ∧ DecimatorLedger t

/-! ## The command dispatcher -/

/-- R82: `DUMP` taken in `IDLE` starts the burst and changes nothing else; no byte is sent by it, and from then on the dispatcher
offers `reading` until `BURST_LEN` bytes have been taken. -/
def Obligations.DumpStartsTheBurst : Prop :=
  ∀ s : State, s.mode = .idle →
    ∃ t, exec .dump s = .next t
      ∧ t.mode = .dump ∧ t.idx = s.params.burstLen
      ∧ t.txValid = true
      ∧ (s.fwdValid = false → t.outputs.txData = some s.reading)
      ∧ t.trace = s.trace ++ [.rx 0x01]
      ∧ t.setpoint = s.setpoint ∧ OutsideDispatcher s t
      ∧ (s.fwdValid = false →
          ∃ u, runOps (List.replicate s.params.burstLen .txack) t = .next u ∧ u.mode = .idle
            ∧ sentBytes u.trace = sentBytes s.trace ++ List.replicate s.params.burstLen s.reading)

/-- R83: `HELLO` taken in `IDLE` starts the greeting at its first byte and changes nothing else; then each following byte is offered
as the one before is taken, until all of `GREETING` has been sent. -/
def Obligations.HelloStartsTheGreeting : Prop :=
  ∀ s : State, s.mode = .idle →
    ∃ t, exec .hello s = .next t
      ∧ t.mode = .hello ∧ t.idx = 0
      ∧ t.txValid = true
      ∧ (s.fwdValid = false → t.outputs.txData = s.params.greeting.head?)
      ∧ t.trace = s.trace ++ [.rx 0x02]
      ∧ t.setpoint = s.setpoint ∧ OutsideDispatcher s t
      ∧ (s.fwdValid = false →
          ∃ u, runOps (List.replicate s.params.greetLen .txack) t = .next u ∧ u.mode = .idle
            ∧ sentBytes u.trace = sentBytes s.trace ++ s.params.greeting)

/-- R84: `SETDUTY` taken in `IDLE` awaits the operand with `rx_ready` = 1 and no byte of its own to send; "`setpoint` keeps its old
value until the operand arrives, and `idx` stays 0"; the wait has no timeout, and ticks and conversions go on. -/
def Obligations.SetdutyAwaitsItsOperand : Prop :=
  (∀ s : State, s.mode = .arg → s.inputs.rst = false → s.inputs.rxValid = false →
    ∃ t, step s = .next t ∧ t.mode = .arg ∧ t.rxReady = true ∧ t.setpoint = s.setpoint
      ∧ t.txValid = t.fwdValid
      ∧ (s.inputs.tick = true → t.phase = s.phase + 1)
      ∧ (s.inputs.convDone = true → t.reading = s.inputs.adcData))
  ∧ ∀ s : State, s.mode = .idle →
    ∃ t, exec .setduty s = .next t
      ∧ t.mode = .arg ∧ t.idx = 0
      ∧ t.rxReady = true ∧ t.txValid = s.fwdValid
      ∧ t.trace = s.trace ++ [.rx 0x03]
      ∧ t.setpoint = s.setpoint ∧ OutsideDispatcher s t

/-- R85: `DUTYARG d` taken in `ARG` stores `d` and returns to `IDLE`; `phase` is not touched; the first `TICK` at a later edge uses `d`, one
at the same edge still the old value. -/
def Obligations.DutyargStoresTheSetpoint : Prop :=
  (∀ s : State, s.mode = .arg → s.inputs.rst = false → s.inputs.rxValid = true →
    s.inputs.tick = true →
    ∃ t, step s = .next t ∧ t.setpoint = s.inputs.rxData
      ∧ t.pwmOut = decide (s.phase.toNat < s.setpoint.toNat))
  ∧ ∀ (d : Byte) (s : State), s.mode = .arg →
    ∃ t, exec (.dutyarg d) s = .next t
      ∧ t.setpoint.toNat = d.toNat
      ∧ t.mode = .idle ∧ t.idx = 0
      ∧ t.trace = s.trace ++ [.rx d]
      ∧ OutsideDispatcher s t
      ∧ ∃ u, exec .tick t = .next u ∧ u.pwmOut = decide (s.phase.toNat < d.toNat)

/-- R86: `NOP` taken in `IDLE` changes no register and sends nothing; the byte is consumed. -/
def Obligations.NopOnlyConsumesItsByte : Prop :=
  ∀ (b : Byte) (s : State), s.mode = .idle → WellFormed (.nop b) = true →
    ∃ t, exec (.nop b) s = .next t
      ∧ Registers s t ∧ Surroundings s t
      ∧ t.trace = s.trace ++ [.rx b]
      ∧ t.outputs = s.outputs

/-- R81: `RX b` is, by `mode`, one of the five operations a received byte can be; it happens at exactly the edges with
`rx_valid` = 1, `rx_ready` = 1 and `rst` = 0, with `b` = `rx_data`. -/
def Obligations.RxDecodesByMode : Prop :=
  ∀ (b : Byte) (s : State),
    (s.mode = .idle → exec (.rx b) s =
        if b = 0x01 then exec .dump s
        else if b = 0x02 then exec .hello s
        else if b = 0x03 then exec .setduty s
        else exec (.nop b) s)
    ∧ (s.mode = .arg → exec (.rx b) s = exec (.dutyarg b) s)
    ∧ (Instr.rx b ∈ s.cycleOps ↔
        s.inputs.rxValid = true ∧ (s.mode = .idle ∨ s.mode = .arg) ∧ s.inputs.rst = false
          ∧ s.inputs.rxData = b)

/-- The effect of `RX b` wherever the dispatcher is ready, with its frame: the byte is taken once and only `setpoint`, `mode` and
`idx` may change. -/
def Obligations.RxTakesOneByte : Prop :=
  ∀ (b : Byte) (s : State), s.rxReady = true →
    ∃ t, exec (.rx b) s = .next t
      ∧ t.trace = s.trace ++ [.rx b]
      ∧ t.setpoint = (if s.mode = .arg then b else s.setpoint)
      ∧ t.mode = (if s.mode = .arg then .idle
          else if b = 0x01 then .dump
          else if b = 0x02 then .hello
          else if b = 0x03 then .arg
          else .idle)
      ∧ t.idx = (if s.mode ≠ .arg ∧ b = 0x01 then s.params.burstLen else 0)
      ∧ OutsideDispatcher s t

/-- R80's table: the transitions of `mode` and `idx` are exactly its nine rows. In the last case, where both stay, the operations
outside their handshake (a command byte's operation outside `IDLE`, `DUTYARG` outside `ARG`, `RX` with `rx_ready` = 0, `TXACK` with
nothing offered) are there by inference: the spec says only that they do not occur (assumption 4). -/
def Obligations.DispatcherTransitionsAreExactlyTheTable : Prop :=
  ∀ (i : Instr) (s : State), WellFormed i = true → i ≠ .reset →
    ∃ t, exec i s = .next t ∧
      ((s.mode = .idle ∧ (i = .dump ∨ i = .rx 0x01) ∧ t.mode = .dump ∧ t.idx = s.params.burstLen)
      ∨ (s.mode = .idle ∧ (i = .hello ∨ i = .rx 0x02) ∧ t.mode = .hello ∧ t.idx = 0)
      ∨ (s.mode = .idle ∧ (i = .setduty ∨ i = .rx 0x03) ∧ t.mode = .arg ∧ t.idx = s.idx)
      ∨ (s.mode = .idle ∧ (∃ b, (i = .nop b ∨ i = .rx b) ∧ b ≠ 0x01 ∧ b ≠ 0x02 ∧ b ≠ 0x03)
          ∧ Sequencing s t)
      ∨ (s.mode = .arg ∧ (∃ d, (i = .dutyarg d ∨ i = .rx d) ∧ t.setpoint = d) ∧ t.mode = .idle
          ∧ t.idx = s.idx)
      ∨ (s.mode = .dump ∧ i = .txack ∧ s.fwdValid = false ∧ 1 < s.idx ∧ t.mode = .dump
          ∧ t.idx + 1 = s.idx)
      ∨ (s.mode = .dump ∧ i = .txack ∧ s.fwdValid = false ∧ s.idx = 1 ∧ t.mode = .idle ∧ t.idx = 0)
      ∨ (s.mode = .hello ∧ i = .txack ∧ s.fwdValid = false ∧ s.idx < s.params.greetLen - 1
          ∧ t.mode = .hello ∧ t.idx = s.idx + 1)
      ∨ (s.mode = .hello ∧ i = .txack ∧ s.fwdValid = false ∧ s.idx = s.params.greetLen - 1
          ∧ t.mode = .idle ∧ t.idx = 0)
      ∨ (Sequencing s t ∧
          (i = .tick ∨ (∃ r, i = .conv r)
            ∨ (i = .txack ∧ (s.fwdValid = true ∨ s.mode = .idle ∨ s.mode = .arg))
            ∨ ((i = .dump ∨ i = .hello ∨ i = .setduty ∨ ∃ b, i = .nop b) ∧ s.mode ≠ .idle)
            ∨ ((∃ d, i = .dutyarg d) ∧ s.mode ≠ .arg)
            ∨ ((∃ b, i = .rx b) ∧ s.mode ≠ .idle ∧ s.mode ≠ .arg))))

/-- The model's choice (assumption 4), resting on R80's "exactly these" and vectors V41, V59, V60: an operation outside its
handshake changes nothing at all. -/
def Obligations.NoHandshakeNoEffect : Prop :=
  ∀ s : State,
    (s.mode ≠ .idle →
      exec .dump s = .next s ∧ exec .hello s = .next s ∧ exec .setduty s = .next s
        ∧ ∀ b, exec (.nop b) s = .next s)
    ∧ (s.mode ≠ .arg → ∀ d, exec (.dutyarg d) s = .next s)
    ∧ (s.rxReady = false → ∀ b, exec (.rx b) s = .next s)
    ∧ (s.txValid = false → exec .txack s = .next s)

/-- R89: over one clock cycle `setpoint` changes only by a `RESET` or by a byte taken in `ARG`, and then to that byte. -/
def Obligations.DispatcherIsTheSoleWriterOfSetpoint : Prop :=
  ∀ s : State, ∃ t, step s = .next t ∧
    t.setpoint =
      if s.inputs.rst = true then 0x00
      else if s.inputs.rxValid = true ∧ s.mode = .arg then s.inputs.rxData
      else s.setpoint

/-- R90: while a response is being sent `rx_ready` = 0 and no byte is taken; after the last response byte is taken `rx_ready` is 1
from the next cycle. -/
def Obligations.OneCommandAtATime : Prop :=
  ∀ s : State, (s.mode = .dump ∨ s.mode = .hello) →
    s.outputs.rxReady = false
    ∧ ∃ t, step s = .next t
      ∧ (s.inputs.rst = false → receivedBytes t.trace = receivedBytes s.trace)
      ∧ (s.inputs.rst = false → s.inputs.txReady = true → s.fwdValid = false →
          (s.mode = .dump ∧ s.idx = 1 ∨ s.mode = .hello ∧ s.idx = s.params.greetLen - 1) →
          t.mode = .idle ∧ t.outputs.rxReady = true)

/-- R91: with the slot empty, `IDLE` is reached by `idx` handshakes from `DUMP`, `GREET_LEN - idx` from `HELLO` and one from `ARG`; the
handshakes transfer `idx` copies of `reading`, or the rest of the greeting in order. -/
def Obligations.DispatcherReturnsToIdle : Prop :=
  ∀ s : State,
    (s.mode = .dump → s.fwdValid = false →
      ∃ t, runOps (List.replicate s.idx .txack) s = .next t ∧ t.mode = .idle
        ∧ t.trace = s.trace ++ List.replicate s.idx (.txack .burst s.reading)
        ∧ t.setpoint = s.setpoint ∧ Pwm s t ∧ Sampler s t ∧ Slot s t ∧ t.ovr = s.ovr)
    ∧ (s.mode = .hello → s.fwdValid = false →
      ∃ t, runOps (List.replicate (s.params.greetLen - s.idx) .txack) s = .next t ∧ t.mode = .idle
        ∧ t.trace = s.trace ++ (s.params.greeting.drop s.idx).map (TraceLine.txack .greeting)
        ∧ t.setpoint = s.setpoint ∧ Pwm s t ∧ Sampler s t ∧ Slot s t ∧ t.ovr = s.ovr)
    ∧ (s.mode = .arg → ∀ b, ∃ t, exec (.rx b) s = .next t ∧ t.mode = .idle)

/-- R49, R55, R48: the two bytes `03 d`, with any ticks and conversions between them, store `d`, be it 1, 2 or 3. -/
def Obligations.SetdutyCommandStoresAnyOperand : Prop :=
  ∀ (between : List Instr) (d : Byte) (s : State), s.mode = .idle →
    (∀ i ∈ between, i = .tick ∨ ∃ r, i = .conv r) →
    ∃ t, runOps ([.rx 0x03] ++ between ++ [.rx d]) s = .next t
      ∧ t.setpoint.toNat = d.toNat ∧ t.mode = .idle ∧ t.idx = 0
      ∧ receivedBytes t.trace = receivedBytes s.trace ++ [0x03, d]
      ∧ sentBytes t.trace = sentBytes s.trace

/-- R49, R87, R88, R89, R101 as an invariant: every step keeps the dispatcher's ledger. -/
def Obligations.DispatcherLedgerIsKept : Prop :=
  ∀ s : State, DispatcherLedger s → ∃ t, step s = .next t ∧ DispatcherLedger t

/-! ## The TX port -/

/-- R96: a full slot goes first, then the burst, then the greeting, else nothing is offered. -/
def Obligations.ForwardSlotGoesFirst : Prop :=
  ∀ s : State,
    (s.fwdValid = true → s.outputs.txValid = true ∧ s.outputs.txData = some s.fwdData)
    ∧ (s.fwdValid = false → s.mode = .dump →
        s.outputs.txValid = true ∧ s.outputs.txData = some s.reading)
    ∧ (s.fwdValid = false → s.mode = .hello →
        s.outputs.txValid = true
          ∧ ∃ h : s.idx < s.params.greeting.length, s.outputs.txData = some (s.params.greeting[s.idx]'h))
    ∧ (s.fwdValid = false → (s.mode = .idle ∨ s.mode = .arg) →
        s.outputs.txValid = false ∧ s.outputs.txData = none)

/-- R97: `TXACK` transfers exactly the byte the port shows; a forwarded byte empties the slot and leaves `mode` and `idx`, a
dispatcher byte moves `idx` on or returns to `IDLE`; nothing else changes. It happens at exactly the edges with `tx_valid` = 1,
`tx_ready` = 1 and `rst` = 0. -/
def Obligations.TxackTransfersTheOfferedByte : Prop :=
  ∀ s : State,
    (s.txValid = true →
      ∃ t k b, exec .txack s = .next t
        ∧ s.outputs.txData = some b
        ∧ t.trace = s.trace ++ [.txack k b]
        ∧ (s.fwdValid = true →
            k = .forwarded ∧ b = s.fwdData ∧ t.fwdValid = false ∧ Sequencing s t)
        ∧ (s.fwdValid = false → t.fwdValid = false)
        ∧ (s.fwdValid = false → s.mode = .dump →
            k = .burst ∧ b = s.reading
              ∧ (s.idx = 1 → t.mode = .idle ∧ t.idx = 0)
              ∧ (s.idx ≠ 1 → t.mode = .dump ∧ t.idx = s.idx - 1))
        ∧ (s.fwdValid = false → s.mode = .hello →
            k = .greeting ∧ s.params.greeting[s.idx]? = some b
              ∧ (s.idx = s.params.greetLen - 1 → t.mode = .idle ∧ t.idx = 0)
              ∧ (s.idx ≠ s.params.greetLen - 1 → t.mode = .hello ∧ t.idx = s.idx + 1))
        ∧ Pwm s t ∧ t.setpoint = s.setpoint ∧ Sampler s t ∧ t.fwdData = s.fwdData ∧ t.ovr = s.ovr
        ∧ Surroundings s t)
    ∧ (Instr.txack ∈ s.cycleOps ↔
        s.txValid = true ∧ s.inputs.txReady = true ∧ s.inputs.rst = false)

/-- R98: an offer once made is never withdrawn before a handshake, and the offered byte changes only because a forward fills the
slot or, in `DUMP` with the slot empty, because a conversion changes `reading`. -/
def Obligations.OfferStandsUntilTaken : Prop :=
  ∀ s : State, s.txValid = true → s.inputs.txReady = false → s.inputs.rst = false →
    ∃ t, step s = .next t
      ∧ t.txValid = true
      ∧ sentBytes t.trace = sentBytes s.trace
      ∧ (t.outputs.txData ≠ s.outputs.txData →
          s.fwdValid = false ∧ s.inputs.convDone = true
            ∧ (t.fwdValid = true ∨ s.mode = .dump ∧ t.reading ≠ s.reading))

/-- R100: a byte in the slot after an edge is what the port offers from the next cycle on, and it is the next byte transferred. -/
def Obligations.ForwardedByteIsTheNextOut : Prop :=
  ∀ s t : State, step s = .next t → t.fwdValid = true →
    t.outputs.txValid = true ∧ t.outputs.txData = some t.fwdData
    ∧ ∃ u, step t = .next u
      ∧ (t.inputs.rst = false → t.inputs.txReady = true →
          sentBytes u.trace = sentBytes t.trace ++ [t.fwdData]
            ∧ (t.inputs.rxValid = false → Sequencing t u))
      ∧ (t.inputs.rst = false → t.inputs.txReady = false →
          sentBytes u.trace = sentBytes t.trace ∧ u.outputs.txData = some t.fwdData)

/-! ## Reset -/

/-- R27: every register's value after `RESET`, and by R26 the outputs. The values are the spec's decisions (assumption 12, which
weighs `reading`'s); that the state carries R5's parameters, at their reference values, is the model's choice (assumption 6), and
the greeting's codes are presumed (assumption 8). -/
def Obligations.ResetStateIsTheTable : Prop :=
  AtReset State.reset
    ∧ State.reset.params.K = 10 ∧ State.reset.params.burstLen = 100
    ∧ State.reset.params.greeting = [0x48, 0x65, 0x6C, 0x6C, 0x6F, 0x0A]
    ∧ State.reset.outputs = ⟨true, false, none, false, false⟩

/-- R120: `RESET` gives every register its reset value whatever the state and the other inputs are, and no other operation is
performed at that edge. -/
def Obligations.ResetOverridesEverything : Prop :=
  (∀ s : State, ∃ t, exec .reset s = .next t ∧ AtReset t ∧ t.trace = [] ∧ Surroundings s t)
  ∧ ∀ s : State,
    (Instr.reset ∈ s.cycleOps ↔ s.inputs.rst = true)
    ∧ (s.inputs.rst = true →
        s.cycleOps = [.reset] ∧ ∃ t, step s = .next t ∧ AtReset t ∧ t.trace = [])

/-- R121: in the cycle after a reset edge `pwm_out` = 0, `tx_valid` = 0, `rx_ready` = 1 and `tx_overrun` = 0; a response or an operand
wait under way is abandoned, a waiting forwarded byte is lost without setting `ovr`, and the next byte taken is a command. -/
def Obligations.OutputsAfterReset : Prop :=
  ∀ s : State, s.inputs.rst = true →
    ∃ t, step s = .next t
      ∧ t.outputs = ⟨true, false, none, false, false⟩
      ∧ t.fwdValid = false ∧ t.ovr = false
      ∧ ∀ b, t.received b = decodeCmd b

/-- The three ledgers hold right after reset, for all parameters. -/
def Obligations.LedgersHoldAtReset : Prop :=
  ∀ p : Params, PwmLedger (State.resetWith p) ∧ DecimatorLedger (State.resetWith p)
    ∧ DispatcherLedger (State.resetWith p)

/-! ## The clock cycle -/

/-- R44: the output ports are functions of the pre-edge registers, the step performs `TXACK`, `TICK`, `CONV`, `RX` in this order,
each where its event was true before the edge, or `RESET` alone; an `RX` and a `TXACK` of a dispatcher byte exclude each other; a
cycle with no event changes no register. -/
def Obligations.StepIsTheCycleFunction : Prop :=
  ∀ s : State,
    (s.outputs.rxReady = true ↔ s.mode = .idle ∨ s.mode = .arg)
    ∧ (s.outputs.txValid = true ↔ s.fwdValid = true ∨ s.mode = .dump ∨ s.mode = .hello)
    ∧ (s.outputs.txValid = true ↔ ∃ b, s.outputs.txData = some b)
    ∧ s.outputs.txData = (if s.fwdValid = true then some s.fwdData
        else if s.mode = .dump then some s.reading
        else if s.mode = .hello then s.params.greeting[s.idx]?
        else none)
    ∧ s.outputs.pwmOut = s.pwmOut ∧ s.outputs.txOverrun = s.ovr
    ∧ (s.inputs.rst = true → step s = exec .reset s.sampled)
    ∧ (s.inputs.rst = false → step s =
        perform (s.inputs.rxValid && s.outputs.rxReady) (.rx s.inputs.rxData)
          (perform s.inputs.convDone (.conv s.inputs.adcData)
            (perform s.inputs.tick .tick
              (perform (s.outputs.txValid && s.inputs.txReady) .txack (.next s.sampled)))))
    ∧ (s.outputs.rxReady = true → s.outputs.txValid = true → s.fwdValid = true)
    ∧ (s.inputs.rst = false → s.inputs.tick = false → s.inputs.convDone = false →
        (s.inputs.rxValid = false ∨ s.outputs.rxReady = false) →
        (s.inputs.txReady = false ∨ s.outputs.txValid = false) →
        step s = .next s.sampled ∧ Registers s s.sampled ∧ s.sampled.trace = s.trace)

/-- R38: at one edge a `TICK` beside a `DUTYARG` compares against the old `setpoint`, a burst byte beside a `CONV` carries the old
`reading`, and a forward beside the `TXACK` that empties the slot is no overrun. -/
def Obligations.SameEdgeOutcomes : Prop :=
  ∀ s : State, s.inputs.rst = false →
    ∃ t, step s = .next t
      ∧ (s.inputs.tick = true → t.pwmOut = decide (s.phase.toNat < s.setpoint.toNat))
      ∧ (s.mode = .dump → s.fwdValid = false → s.inputs.txReady = true →
          sentBytes t.trace = sentBytes s.trace ++ [s.reading])
      ∧ (s.fwdValid = true → s.inputs.txReady = true → s.inputs.convDone = true →
          s.decCount = s.params.K →
          t.fwdValid = true ∧ t.fwdData = s.inputs.adcData ∧ t.ovr = s.ovr
            ∧ sentBytes t.trace = sentBytes s.trace ++ [s.fwdData])

/-- R38, R111: the pairs of events that give the same registers, and the same traffic on the ports, in either order. Left out are a
`TICK` with a byte taken in `ARG` (R38 (a)) and, by inference from R44 and R100 where R38 does not name it (assumption 9), a `TXACK` with
the `CONV` that forwards. A `TXACK` of a burst byte with another `CONV` gives the same registers only: the order decides which reading is
sent (R38 (b)). -/
def Obligations.OtherEventsCommute : Prop :=
  ∀ (s : State) (r b : Byte),
    AgreeOnRegistersAndPorts (runOps [.txack, .tick] s) (runOps [.tick, .txack] s)
    ∧ AgreeOnRegistersAndPorts (runOps [.tick, .conv r] s) (runOps [.conv r, .tick] s)
    ∧ (s.mode ≠ .arg → AgreeOnRegistersAndPorts (runOps [.tick, .rx b] s) (runOps [.rx b, .tick] s))
    ∧ AgreeOnRegistersAndPorts (runOps [.conv r, .rx b] s) (runOps [.rx b, .conv r] s)
    ∧ (s.decCount ≠ s.params.K →
        AgreeOnRegisters (runOps [.txack, .conv r] s) (runOps [.conv r, .txack] s))
    ∧ (s.decCount ≠ s.params.K → (s.fwdValid = true ∨ s.mode ≠ .dump) →
        AgreeOnRegistersAndPorts (runOps [.txack, .conv r] s) (runOps [.conv r, .txack] s))
    ∧ (s.rxReady = true → s.txValid = true →
        AgreeOnRegistersAndPorts (runOps [.txack, .rx b] s) (runOps [.rx b, .txack] s))

/-- R68, R78, R110: at every edge with `rst` = 0, one `TICK` per `tick` = 1 and one `CONV` per `conv_done` = 1, whatever the TX port,
the receive stream, `mode` or the slot are doing; none is lost, repeated or delayed. -/
def Obligations.EveryStrobeIsOneEvent : Prop :=
  ∀ s : State, s.inputs.rst = false →
    ∃ t, step s = .next t
      ∧ t.phase.toNat = (s.phase.toNat + (if s.inputs.tick = true then 1 else 0)) % 256
      ∧ (pwmLevels t.trace).length
          = (pwmLevels s.trace).length + (if s.inputs.tick = true then 1 else 0)
      ∧ (s.inputs.tick = false → t.pwmOut = s.pwmOut)
      ∧ conversions t.trace
          = conversions s.trace ++ (if s.inputs.convDone = true then [s.inputs.adcData] else [])
      ∧ t.reading = (if s.inputs.convDone = true then s.inputs.adcData else s.reading)
      ∧ t.decCount
          = (s.decCount + (if s.inputs.convDone = true then 1 else 0)) % (s.params.K + 1)

/-- R34, R41, R95, R102: in one cycle the byte shown on `tx_data` leaves exactly where `tx_valid` = 1, `tx_ready` = 1 and `rst` = 0, and
the byte on `rx_data` is taken exactly where `rx_valid` = 1, `rx_ready` = 1 and `rst` = 0; each once, and no other byte moves. -/
def Obligations.EachHandshakeTransfersOneByte : Prop :=
  ∀ s : State, s.inputs.rst = false →
    ∃ t, step s = .next t
      ∧ sentBytes t.trace = sentBytes s.trace
          ++ (if s.outputs.txValid = true ∧ s.inputs.txReady = true
              then s.outputs.txData.toList else [])
      ∧ receivedBytes t.trace = receivedBytes s.trace
          ++ (if s.outputs.rxReady = true ∧ s.inputs.rxValid = true
              then [s.inputs.rxData] else [])
      ∧ (s.outputs.txValid = true → s.outputs.txData.toList.length = 1)

/-- R26, R120 (U14, U16): `adc_data` is read only where `conv_done` = 1, `rx_data` only where the byte is taken, and nothing but `rst`
where `rst` = 1: with other values there the step is the same. -/
def Obligations.IgnoredWiresHaveNoEffect : Prop :=
  ∀ (s : State) (inp other : Inputs) (rest : List Inputs), s.pending = inp :: rest →
    (inp.convDone = false →
      step { s with pending := { inp with adcData := other.adcData } :: rest } = step s)
    ∧ ((inp.rxValid = false ∨ s.outputs.rxReady = false) →
      step { s with pending := { inp with rxData := other.rxData } :: rest } = step s)
    ∧ (inp.rst = true →
      step { s with pending := { other with rst := true } :: rest } = step s)

/-- R43: over one operation each register is changed by its writers only. -/
def Obligations.EachRegisterHasItsWriter : Prop :=
  ∀ (i : Instr) (s : State), i ≠ .reset →
    ∃ t, exec i s = .next t
      ∧ (t.setpoint ≠ s.setpoint → s.mode = .arg ∧ ∃ d, i = .dutyarg d ∨ i = .rx d)
      ∧ (¬ Pwm s t → i = .tick)
      ∧ ((¬ Sampler s t ∨ t.fwdData ≠ s.fwdData ∨ t.ovr ≠ s.ovr) → ∃ r, i = .conv r)
      ∧ (s.fwdValid = false → t.fwdValid = true → ∃ r, i = .conv r)
      ∧ (s.fwdValid = true → t.fwdValid = false → i = .txack)
      ∧ (¬ Sequencing s t →
          (i = .txack ∧ s.fwdValid = false)
            ∨ ((∃ b, i = .rx b ∨ i = .nop b ∨ i = .dutyarg b) ∨ i = .dump ∨ i = .hello ∨ i = .setduty))
      ∧ Surroundings s t

/-- R105, R119: no operation faults or is refused, in any state and with any operand; every run goes on for ever. -/
def Obligations.NothingFaults : Prop :=
  (∀ (i : Instr) (s : State), ∃ t, exec i s = .next t)
    ∧ ∀ s : State, StepsOn s ∧ ∀ n, ∃ t, Reaches n s t

/-- R5: no step writes the parameters; each step uses up one placed input and one cycle number. The placed inputs are the model's
(assumption 1). -/
def Obligations.ParametersAreFixed : Prop :=
  ∀ (n : Nat) (s : State), ∃ t, Reaches n s t
    ∧ t.params = s.params ∧ t.cycle = s.cycle + n ∧ t.pending = s.pending.drop n

/-- R14, R18: in every state the counters fit the widths of R10. -/
def Obligations.CountersFitTheirWidths : Prop :=
  ∀ s : State,
    s.decCount < 2 ^ s.params.decWidth
      ∧ s.idx < 2 ^ Params.idxWidth
      ∧ ((s.mode = .idle ∨ s.mode = .arg) → s.idx = 0)
      ∧ (s.mode = .dump → 1 ≤ s.idx ∧ s.idx ≤ s.params.burstLen)
      ∧ (s.mode = .hello → s.idx < s.params.greetLen)

/-- R135: the latencies, in clock cycles: the outputs right after the edge of a `TICK`, of a `CONV` that forwards, of a command, and of a
last response byte. -/
def Obligations.LatencyIsOneCycle : Prop :=
  ∀ s : State, s.inputs.rst = false →
    ∃ t, step s = .next t
      ∧ (s.inputs.tick = true → t.outputs.pwmOut = decide (s.phase.toNat < s.setpoint.toNat))
      ∧ (s.inputs.convDone = true → s.decCount = s.params.K → t.outputs.txValid = true)
      ∧ (s.mode = .idle → s.inputs.rxValid = true →
          (s.inputs.rxData = 0x01 ∨ s.inputs.rxData = 0x02) → t.outputs.txValid = true)
      ∧ (s.mode = .arg → s.inputs.rxValid = true → t.setpoint = s.inputs.rxData)
      ∧ (s.mode = .dump → s.idx = 1 → s.fwdValid = false → s.inputs.txReady = true →
          t.outputs.rxReady = true)
      ∧ (s.mode = .hello → s.idx = s.params.greetLen - 1 → s.fwdValid = false →
          s.inputs.txReady = true → t.outputs.rxReady = true)

/-- R4: "must not feed the analog reading back into the setpoint": whatever values the conversions deliver, now and in the last
`reading`, one cycle leaves the same `setpoint`, `phase`, `pwm_out`, `mode`, `idx` and `dec_count`. -/
def Obligations.SamplesNeverReachThePwm : Prop :=
  ∀ (s : State) (inp : Inputs) (rest : List Inputs) (v w : Byte), s.pending = inp :: rest →
    ∃ t u, step s = .next t
      ∧ step { s.setReading v with pending := { inp with adcData := w } :: rest } = .next u
      ∧ u.setpoint = t.setpoint ∧ Pwm t u ∧ Sequencing t u ∧ u.decCount = t.decCount
      ∧ u.fwdValid = t.fwdValid ∧ u.ovr = t.ovr

/-- R12, R22, R92: neither `phase` nor `setpoint` is visible on any port but the pin: with other values of both, one cycle leaves
every other register but `pwm_out` the same, takes the same bytes and sends the same bytes. -/
def Obligations.PhaseAndSetpointShowOnlyOnThePin : Prop :=
  ∀ (s : State) (v w : Byte),
    ((s.setPhase v).setSetpoint w).outputs = s.outputs
    ∧ ∃ t u, step s = .next t ∧ step ((s.setPhase v).setSetpoint w) = .next u
      ∧ Sampler t u ∧ Slot t u ∧ u.ovr = t.ovr ∧ Sequencing t u
      ∧ receivedBytes u.trace = receivedBytes t.trace ∧ sentBytes u.trace = sentBytes t.trace

/-! ## Encodings and the step -/

/-- R49, R44: where the wires of a cycle present the bits of a well-formed operation whose handshake is enabled, the step samples
them and is that operation. The placing of inputs is the model's (assumption 1). -/
def Obligations.StepRunsTheDecodedOperation : Prop :=
  ∀ (i : Instr) (s : State) (rest : List Inputs),
    WellFormed i = true → Enabled i s → s.pending = (encode i).wires :: rest →
    step s = exec i s.sampled
      ∧ s.sampled.pending = rest ∧ s.sampled.cycle = s.cycle + 1
      ∧ Registers s s.sampled ∧ s.sampled.params = s.params ∧ s.sampled.trace = s.trace

/-- The model's choice (assumption 2), for R9's unconstrained agents: a cycle for which no input is placed runs on what the
environment drives, whatever that is. -/
def Obligations.UnplacedCycleRunsOnTheEnvironment : Prop :=
  ∀ (s u : State), s.pending = [] → u = { s with pending := [Config.environment s.cycle] } →
    step s = step u

/-- R52: the event vector holds one bit per event, and decoding it gives back the events' operations in the order of R38. -/
def Obligations.EventVectorSelectsItsOperations : Prop :=
  ∀ (tick conv rx tx : Bool) (adc b : Byte),
    decodeEvents (eventVector tick conv rx tx) adc b
        = (if tx then [Instr.txack] else []) ++ (if tick then [Instr.tick] else [])
          ++ (if conv then [Instr.conv adc] else []) ++ (if rx then [Instr.rx b] else [])
      ∧ (eventVector tick conv rx tx).getLsbD 0 = tick
      ∧ (eventVector tick conv rx tx).getLsbD 1 = conv
      ∧ (eventVector tick conv rx tx).getLsbD 2 = rx
      ∧ (eventVector tick conv rx tx).getLsbD 3 = tx

/-- R47: the match/mask rows of format `CMD` are pairwise disjoint and together cover all 256 values, each row naming what the decoder
reads. -/
def Obligations.CommandMapIsTotalAndDisjoint : Prop :=
  ∀ b : Byte,
    (cmdRows.filter (fun r => r.covers b)).map TableRow.mnemonic = [(decodeCmd b).toInstr.mnemonic]
      ∧ (decodeCmd b = .dump ↔ b = 0x01) ∧ (decodeCmd b = .hello ↔ b = 0x02)
      ∧ (decodeCmd b = .setduty ↔ b = 0x03)
      ∧ (decodeCmd b = .nop b ↔ b ≠ 0x01 ∧ b ≠ 0x02 ∧ b ≠ 0x03)

/-- R50: no received byte is illegal in either format, each of the 253 other command bytes is the operation `NOP`, and taking any
byte in any state goes on to a next state. That the encoding of a command writes 0 on the data wire is the model's choice
(assumption 13). -/
def Obligations.EveryReceivedByteDecodes : Prop :=
  ∀ b x : Byte,
    (∃ i, decode ⟨.cmd, b, x⟩ = .ok i ∧ WellFormed i = true ∧ encode i = ⟨.cmd, b, 0⟩
      ∧ (b ≠ 0x01 → b ≠ 0x02 → b ≠ 0x03 → i = .nop b))
      ∧ decode ⟨.arg, b, x⟩ = .ok (.dutyarg b)
      ∧ ∀ s : State, ∃ t, exec (.rx b) s = .next t

/-- R45 to R48, R52: decoding the encoding of a well-formed operation gives it back, and no two well-formed operations have the same
bits. -/
def Obligations.DecodeInvertsEncode : Prop :=
  (∀ i : Instr, WellFormed i = true → decode (encode i) = .ok i)
    ∧ ∀ i j : Instr, WellFormed i = true → WellFormed j = true → encode i = encode j → i = j

/-- R45, R48, R52: a word is read in its own format only: what a decoded word encodes to is that word. The byte on the data wire is the
operand of `CONV` and `RX`, which sample it, and is dropped, encoded as 0, for every other operation, which samples none (that
it is written as 0 is the model's choice, assumption 13). -/
def Obligations.EncodeInvertsDecode : Prop :=
  ∀ (e : Encoded) (i : Instr), decode e = .ok i →
    WellFormed i = true ∧ (encode i).format = e.format ∧ (encode i).word = e.word
      ∧ (∀ b, (i = .conv b ∨ i = .rx b) → b = e.operand ∧ (encode i).operand = e.operand)
      ∧ ((∀ b, i ≠ .conv b ∧ i ≠ .rx b) → (encode i).operand = 0)

/-- Words written out from R45 to R48 and R52, and what they stand for. The two rejections are the model's choice (assumption 13): the
block performs every event whose bit is set (R52), and only the decoder of a single operation turns such a word away. -/
def Obligations.WordsOfTheTable : Prop :=
  decode ⟨.ev, 0b0001, 0⟩ = .ok .tick
    ∧ decode ⟨.ev, 0b0010, 0x5A⟩ = .ok (.conv 0x5A)
    ∧ decode ⟨.ev, 0b0100, 0x83⟩ = .ok (.rx 0x83)
    ∧ decode ⟨.ev, 0b1000, 0⟩ = .ok .txack
    ∧ decode ⟨.rst, 0b1, 0⟩ = .ok .reset
    ∧ decode ⟨.cmd, 0b00000001, 0⟩ = .ok .dump
    ∧ decode ⟨.cmd, 0b00000010, 0⟩ = .ok .hello
    ∧ decode ⟨.cmd, 0b00000011, 0⟩ = .ok .setduty
    ∧ decode ⟨.cmd, 0b10000011, 0⟩ = .ok (.nop 0x83)
    ∧ decode ⟨.arg, 0b10000000, 0⟩ = .ok (.dutyarg 0x80)
    ∧ decode ⟨.ev, 0b0101, 0⟩ = .error .severalOperations
    ∧ decode ⟨.ev, 0b10000, 0⟩ = .error .tooWide

/-! ## The block and what surrounds it -/

/-- R10: the block's state is the ten registers and nothing else, the configuration and the inputs being parameters of its step. The
machine's step replaces the registers by what R44's function makes of them and of this cycle's inputs; its outputs are those of a
block with the same registers and nothing around it, and so is what the cycle adds to the record. That the parameters, the inputs to
come, a cycle count and the record are carried in `State` beside the block is the model's choice (assumptions 6, 1, 2, 3). -/
def Obligations.BlockIsTheTenRegisters : Prop :=
  ∀ s : State, ∃ t, step s = .next t
    ∧ t = { s.sampled.withBlock (s.block.step s.inputs) with trace := t.trace }
    ∧ s.outputs = (s.block.facing s.inputs).outputs
    ∧ ∃ u, step (s.block.facing s.inputs) = .next u
        ∧ t.trace = (if s.inputs.rst = true then [] else s.trace) ++ u.trace
end

