-- ==== Sys2Proof/Laws/State.lean ====
section
/-! SUPPORT. One lemma per field per update of the state, so that no proof unfolds a record update. -/

namespace Sys2Proof.Machine.State

open Sys2Proof

variable (s : State)

@[simp] theorem setSetpoint_params (v : Byte) : (s.setSetpoint v).params = s.params := rfl
@[simp] theorem setSetpoint_setpoint (v : Byte) : (s.setSetpoint v).setpoint = v := rfl
@[simp] theorem setSetpoint_phase (v : Byte) : (s.setSetpoint v).phase = s.phase := rfl
@[simp] theorem setSetpoint_reading (v : Byte) : (s.setSetpoint v).reading = s.reading := rfl
@[simp] theorem setSetpoint_decCount (v : Byte) : (s.setSetpoint v).decCount = s.decCount := rfl
@[simp] theorem setSetpoint_pwmOut (v : Byte) : (s.setSetpoint v).pwmOut = s.pwmOut := rfl
@[simp] theorem setSetpoint_fwdValid (v : Byte) : (s.setSetpoint v).fwdValid = s.fwdValid := rfl
@[simp] theorem setSetpoint_fwdData (v : Byte) : (s.setSetpoint v).fwdData = s.fwdData := rfl
@[simp] theorem setSetpoint_ovr (v : Byte) : (s.setSetpoint v).ovr = s.ovr := rfl
@[simp] theorem setSetpoint_mode (v : Byte) : (s.setSetpoint v).mode = s.mode := rfl
@[simp] theorem setSetpoint_idx (v : Byte) : (s.setSetpoint v).idx = s.idx := rfl
@[simp] theorem setSetpoint_pending (v : Byte) : (s.setSetpoint v).pending = s.pending := rfl
@[simp] theorem setSetpoint_cycle (v : Byte) : (s.setSetpoint v).cycle = s.cycle := rfl
@[simp] theorem setSetpoint_trace (v : Byte) : (s.setSetpoint v).trace = s.trace := rfl

@[simp] theorem setPhase_params (v : Byte) : (s.setPhase v).params = s.params := rfl
@[simp] theorem setPhase_setpoint (v : Byte) : (s.setPhase v).setpoint = s.setpoint := rfl
@[simp] theorem setPhase_phase (v : Byte) : (s.setPhase v).phase = v := rfl
@[simp] theorem setPhase_reading (v : Byte) : (s.setPhase v).reading = s.reading := rfl
@[simp] theorem setPhase_decCount (v : Byte) : (s.setPhase v).decCount = s.decCount := rfl
@[simp] theorem setPhase_pwmOut (v : Byte) : (s.setPhase v).pwmOut = s.pwmOut := rfl
@[simp] theorem setPhase_fwdValid (v : Byte) : (s.setPhase v).fwdValid = s.fwdValid := rfl
@[simp] theorem setPhase_fwdData (v : Byte) : (s.setPhase v).fwdData = s.fwdData := rfl
@[simp] theorem setPhase_ovr (v : Byte) : (s.setPhase v).ovr = s.ovr := rfl
@[simp] theorem setPhase_mode (v : Byte) : (s.setPhase v).mode = s.mode := rfl
@[simp] theorem setPhase_idx (v : Byte) : (s.setPhase v).idx = s.idx := rfl
@[simp] theorem setPhase_pending (v : Byte) : (s.setPhase v).pending = s.pending := rfl
@[simp] theorem setPhase_cycle (v : Byte) : (s.setPhase v).cycle = s.cycle := rfl
@[simp] theorem setPhase_trace (v : Byte) : (s.setPhase v).trace = s.trace := rfl

@[simp] theorem setReading_params (v : Byte) : (s.setReading v).params = s.params := rfl
@[simp] theorem setReading_setpoint (v : Byte) : (s.setReading v).setpoint = s.setpoint := rfl
@[simp] theorem setReading_phase (v : Byte) : (s.setReading v).phase = s.phase := rfl
@[simp] theorem setReading_reading (v : Byte) : (s.setReading v).reading = v := rfl
@[simp] theorem setReading_decCount (v : Byte) : (s.setReading v).decCount = s.decCount := rfl
@[simp] theorem setReading_pwmOut (v : Byte) : (s.setReading v).pwmOut = s.pwmOut := rfl
@[simp] theorem setReading_fwdValid (v : Byte) : (s.setReading v).fwdValid = s.fwdValid := rfl
@[simp] theorem setReading_fwdData (v : Byte) : (s.setReading v).fwdData = s.fwdData := rfl
@[simp] theorem setReading_ovr (v : Byte) : (s.setReading v).ovr = s.ovr := rfl
@[simp] theorem setReading_mode (v : Byte) : (s.setReading v).mode = s.mode := rfl
@[simp] theorem setReading_idx (v : Byte) : (s.setReading v).idx = s.idx := rfl
@[simp] theorem setReading_pending (v : Byte) : (s.setReading v).pending = s.pending := rfl
@[simp] theorem setReading_cycle (v : Byte) : (s.setReading v).cycle = s.cycle := rfl
@[simp] theorem setReading_trace (v : Byte) : (s.setReading v).trace = s.trace := rfl

@[simp] theorem setDecCount_params (n : Nat) (h : n ≤ s.params.K) : (s.setDecCount n h).params = s.params := rfl
@[simp] theorem setDecCount_setpoint (n : Nat) (h : n ≤ s.params.K) : (s.setDecCount n h).setpoint = s.setpoint := rfl
@[simp] theorem setDecCount_phase (n : Nat) (h : n ≤ s.params.K) : (s.setDecCount n h).phase = s.phase := rfl
@[simp] theorem setDecCount_reading (n : Nat) (h : n ≤ s.params.K) : (s.setDecCount n h).reading = s.reading := rfl
@[simp] theorem setDecCount_decCount (n : Nat) (h : n ≤ s.params.K) : (s.setDecCount n h).decCount = n := rfl
@[simp] theorem setDecCount_pwmOut (n : Nat) (h : n ≤ s.params.K) : (s.setDecCount n h).pwmOut = s.pwmOut := rfl
@[simp] theorem setDecCount_fwdValid (n : Nat) (h : n ≤ s.params.K) : (s.setDecCount n h).fwdValid = s.fwdValid := rfl
@[simp] theorem setDecCount_fwdData (n : Nat) (h : n ≤ s.params.K) : (s.setDecCount n h).fwdData = s.fwdData := rfl
@[simp] theorem setDecCount_ovr (n : Nat) (h : n ≤ s.params.K) : (s.setDecCount n h).ovr = s.ovr := rfl
@[simp] theorem setDecCount_mode (n : Nat) (h : n ≤ s.params.K) : (s.setDecCount n h).mode = s.mode := rfl
@[simp] theorem setDecCount_idx (n : Nat) (h : n ≤ s.params.K) : (s.setDecCount n h).idx = s.idx := rfl
@[simp] theorem setDecCount_pending (n : Nat) (h : n ≤ s.params.K) : (s.setDecCount n h).pending = s.pending := rfl
@[simp] theorem setDecCount_cycle (n : Nat) (h : n ≤ s.params.K) : (s.setDecCount n h).cycle = s.cycle := rfl
@[simp] theorem setDecCount_trace (n : Nat) (h : n ≤ s.params.K) : (s.setDecCount n h).trace = s.trace := rfl

@[simp] theorem setPwmOut_params (v : Bool) : (s.setPwmOut v).params = s.params := rfl
@[simp] theorem setPwmOut_setpoint (v : Bool) : (s.setPwmOut v).setpoint = s.setpoint := rfl
@[simp] theorem setPwmOut_phase (v : Bool) : (s.setPwmOut v).phase = s.phase := rfl
@[simp] theorem setPwmOut_reading (v : Bool) : (s.setPwmOut v).reading = s.reading := rfl
@[simp] theorem setPwmOut_decCount (v : Bool) : (s.setPwmOut v).decCount = s.decCount := rfl
@[simp] theorem setPwmOut_pwmOut (v : Bool) : (s.setPwmOut v).pwmOut = v := rfl
@[simp] theorem setPwmOut_fwdValid (v : Bool) : (s.setPwmOut v).fwdValid = s.fwdValid := rfl
@[simp] theorem setPwmOut_fwdData (v : Bool) : (s.setPwmOut v).fwdData = s.fwdData := rfl
@[simp] theorem setPwmOut_ovr (v : Bool) : (s.setPwmOut v).ovr = s.ovr := rfl
@[simp] theorem setPwmOut_mode (v : Bool) : (s.setPwmOut v).mode = s.mode := rfl
@[simp] theorem setPwmOut_idx (v : Bool) : (s.setPwmOut v).idx = s.idx := rfl
@[simp] theorem setPwmOut_pending (v : Bool) : (s.setPwmOut v).pending = s.pending := rfl
@[simp] theorem setPwmOut_cycle (v : Bool) : (s.setPwmOut v).cycle = s.cycle := rfl
@[simp] theorem setPwmOut_trace (v : Bool) : (s.setPwmOut v).trace = s.trace := rfl

@[simp] theorem setFwdValid_params (v : Bool) : (s.setFwdValid v).params = s.params := rfl
@[simp] theorem setFwdValid_setpoint (v : Bool) : (s.setFwdValid v).setpoint = s.setpoint := rfl
@[simp] theorem setFwdValid_phase (v : Bool) : (s.setFwdValid v).phase = s.phase := rfl
@[simp] theorem setFwdValid_reading (v : Bool) : (s.setFwdValid v).reading = s.reading := rfl
@[simp] theorem setFwdValid_decCount (v : Bool) : (s.setFwdValid v).decCount = s.decCount := rfl
@[simp] theorem setFwdValid_pwmOut (v : Bool) : (s.setFwdValid v).pwmOut = s.pwmOut := rfl
@[simp] theorem setFwdValid_fwdValid (v : Bool) : (s.setFwdValid v).fwdValid = v := rfl
@[simp] theorem setFwdValid_fwdData (v : Bool) : (s.setFwdValid v).fwdData = s.fwdData := rfl
@[simp] theorem setFwdValid_ovr (v : Bool) : (s.setFwdValid v).ovr = s.ovr := rfl
@[simp] theorem setFwdValid_mode (v : Bool) : (s.setFwdValid v).mode = s.mode := rfl
@[simp] theorem setFwdValid_idx (v : Bool) : (s.setFwdValid v).idx = s.idx := rfl
@[simp] theorem setFwdValid_pending (v : Bool) : (s.setFwdValid v).pending = s.pending := rfl
@[simp] theorem setFwdValid_cycle (v : Bool) : (s.setFwdValid v).cycle = s.cycle := rfl
@[simp] theorem setFwdValid_trace (v : Bool) : (s.setFwdValid v).trace = s.trace := rfl

@[simp] theorem setFwdData_params (v : Byte) : (s.setFwdData v).params = s.params := rfl
@[simp] theorem setFwdData_setpoint (v : Byte) : (s.setFwdData v).setpoint = s.setpoint := rfl
@[simp] theorem setFwdData_phase (v : Byte) : (s.setFwdData v).phase = s.phase := rfl
@[simp] theorem setFwdData_reading (v : Byte) : (s.setFwdData v).reading = s.reading := rfl
@[simp] theorem setFwdData_decCount (v : Byte) : (s.setFwdData v).decCount = s.decCount := rfl
@[simp] theorem setFwdData_pwmOut (v : Byte) : (s.setFwdData v).pwmOut = s.pwmOut := rfl
@[simp] theorem setFwdData_fwdValid (v : Byte) : (s.setFwdData v).fwdValid = s.fwdValid := rfl
@[simp] theorem setFwdData_fwdData (v : Byte) : (s.setFwdData v).fwdData = v := rfl
@[simp] theorem setFwdData_ovr (v : Byte) : (s.setFwdData v).ovr = s.ovr := rfl
@[simp] theorem setFwdData_mode (v : Byte) : (s.setFwdData v).mode = s.mode := rfl
@[simp] theorem setFwdData_idx (v : Byte) : (s.setFwdData v).idx = s.idx := rfl
@[simp] theorem setFwdData_pending (v : Byte) : (s.setFwdData v).pending = s.pending := rfl
@[simp] theorem setFwdData_cycle (v : Byte) : (s.setFwdData v).cycle = s.cycle := rfl
@[simp] theorem setFwdData_trace (v : Byte) : (s.setFwdData v).trace = s.trace := rfl

@[simp] theorem setOvr_params (v : Bool) : (s.setOvr v).params = s.params := rfl
@[simp] theorem setOvr_setpoint (v : Bool) : (s.setOvr v).setpoint = s.setpoint := rfl
@[simp] theorem setOvr_phase (v : Bool) : (s.setOvr v).phase = s.phase := rfl
@[simp] theorem setOvr_reading (v : Bool) : (s.setOvr v).reading = s.reading := rfl
@[simp] theorem setOvr_decCount (v : Bool) : (s.setOvr v).decCount = s.decCount := rfl
@[simp] theorem setOvr_pwmOut (v : Bool) : (s.setOvr v).pwmOut = s.pwmOut := rfl
@[simp] theorem setOvr_fwdValid (v : Bool) : (s.setOvr v).fwdValid = s.fwdValid := rfl
@[simp] theorem setOvr_fwdData (v : Bool) : (s.setOvr v).fwdData = s.fwdData := rfl
@[simp] theorem setOvr_ovr (v : Bool) : (s.setOvr v).ovr = v := rfl
@[simp] theorem setOvr_mode (v : Bool) : (s.setOvr v).mode = s.mode := rfl
@[simp] theorem setOvr_idx (v : Bool) : (s.setOvr v).idx = s.idx := rfl
@[simp] theorem setOvr_pending (v : Bool) : (s.setOvr v).pending = s.pending := rfl
@[simp] theorem setOvr_cycle (v : Bool) : (s.setOvr v).cycle = s.cycle := rfl
@[simp] theorem setOvr_trace (v : Bool) : (s.setOvr v).trace = s.trace := rfl

@[simp] theorem setDispatcher_params (m : Mode) (i : Nat) (h : dispatcherInRange s.params m i = true) : (s.setDispatcher m i h).params = s.params := rfl
@[simp] theorem setDispatcher_setpoint (m : Mode) (i : Nat) (h : dispatcherInRange s.params m i = true) : (s.setDispatcher m i h).setpoint = s.setpoint := rfl
@[simp] theorem setDispatcher_phase (m : Mode) (i : Nat) (h : dispatcherInRange s.params m i = true) : (s.setDispatcher m i h).phase = s.phase := rfl
@[simp] theorem setDispatcher_reading (m : Mode) (i : Nat) (h : dispatcherInRange s.params m i = true) : (s.setDispatcher m i h).reading = s.reading := rfl
@[simp] theorem setDispatcher_decCount (m : Mode) (i : Nat) (h : dispatcherInRange s.params m i = true) : (s.setDispatcher m i h).decCount = s.decCount := rfl
@[simp] theorem setDispatcher_pwmOut (m : Mode) (i : Nat) (h : dispatcherInRange s.params m i = true) : (s.setDispatcher m i h).pwmOut = s.pwmOut := rfl
@[simp] theorem setDispatcher_fwdValid (m : Mode) (i : Nat) (h : dispatcherInRange s.params m i = true) : (s.setDispatcher m i h).fwdValid = s.fwdValid := rfl
@[simp] theorem setDispatcher_fwdData (m : Mode) (i : Nat) (h : dispatcherInRange s.params m i = true) : (s.setDispatcher m i h).fwdData = s.fwdData := rfl
@[simp] theorem setDispatcher_ovr (m : Mode) (i : Nat) (h : dispatcherInRange s.params m i = true) : (s.setDispatcher m i h).ovr = s.ovr := rfl
@[simp] theorem setDispatcher_mode (m : Mode) (i : Nat) (h : dispatcherInRange s.params m i = true) : (s.setDispatcher m i h).mode = m := rfl
@[simp] theorem setDispatcher_idx (m : Mode) (i : Nat) (h : dispatcherInRange s.params m i = true) : (s.setDispatcher m i h).idx = i := rfl
@[simp] theorem setDispatcher_pending (m : Mode) (i : Nat) (h : dispatcherInRange s.params m i = true) : (s.setDispatcher m i h).pending = s.pending := rfl
@[simp] theorem setDispatcher_cycle (m : Mode) (i : Nat) (h : dispatcherInRange s.params m i = true) : (s.setDispatcher m i h).cycle = s.cycle := rfl
@[simp] theorem setDispatcher_trace (m : Mode) (i : Nat) (h : dispatcherInRange s.params m i = true) : (s.setDispatcher m i h).trace = s.trace := rfl

@[simp] theorem record_params (l : TraceLine) : (s.record l).params = s.params := rfl
@[simp] theorem record_setpoint (l : TraceLine) : (s.record l).setpoint = s.setpoint := rfl
@[simp] theorem record_phase (l : TraceLine) : (s.record l).phase = s.phase := rfl
@[simp] theorem record_reading (l : TraceLine) : (s.record l).reading = s.reading := rfl
@[simp] theorem record_decCount (l : TraceLine) : (s.record l).decCount = s.decCount := rfl
@[simp] theorem record_pwmOut (l : TraceLine) : (s.record l).pwmOut = s.pwmOut := rfl
@[simp] theorem record_fwdValid (l : TraceLine) : (s.record l).fwdValid = s.fwdValid := rfl
@[simp] theorem record_fwdData (l : TraceLine) : (s.record l).fwdData = s.fwdData := rfl
@[simp] theorem record_ovr (l : TraceLine) : (s.record l).ovr = s.ovr := rfl
@[simp] theorem record_mode (l : TraceLine) : (s.record l).mode = s.mode := rfl
@[simp] theorem record_idx (l : TraceLine) : (s.record l).idx = s.idx := rfl
@[simp] theorem record_pending (l : TraceLine) : (s.record l).pending = s.pending := rfl
@[simp] theorem record_cycle (l : TraceLine) : (s.record l).cycle = s.cycle := rfl
@[simp] theorem record_trace (l : TraceLine) : (s.record l).trace = s.trace ++ [l] := rfl

@[simp] theorem sampled_params : (s.sampled).params = s.params := rfl
@[simp] theorem sampled_setpoint : (s.sampled).setpoint = s.setpoint := rfl
@[simp] theorem sampled_phase : (s.sampled).phase = s.phase := rfl
@[simp] theorem sampled_reading : (s.sampled).reading = s.reading := rfl
@[simp] theorem sampled_decCount : (s.sampled).decCount = s.decCount := rfl
@[simp] theorem sampled_pwmOut : (s.sampled).pwmOut = s.pwmOut := rfl
@[simp] theorem sampled_fwdValid : (s.sampled).fwdValid = s.fwdValid := rfl
@[simp] theorem sampled_fwdData : (s.sampled).fwdData = s.fwdData := rfl
@[simp] theorem sampled_ovr : (s.sampled).ovr = s.ovr := rfl
@[simp] theorem sampled_mode : (s.sampled).mode = s.mode := rfl
@[simp] theorem sampled_idx : (s.sampled).idx = s.idx := rfl
@[simp] theorem sampled_pending : (s.sampled).pending = s.pending.tail := rfl
@[simp] theorem sampled_cycle : (s.sampled).cycle = s.cycle + 1 := rfl
@[simp] theorem sampled_trace : (s.sampled).trace = s.trace := rfl

@[simp] theorem resetRegisters_params : (s.resetRegisters).params = s.params := rfl
@[simp] theorem resetRegisters_setpoint : (s.resetRegisters).setpoint = 0x00 := rfl
@[simp] theorem resetRegisters_phase : (s.resetRegisters).phase = 0x00 := rfl
@[simp] theorem resetRegisters_reading : (s.resetRegisters).reading = 0x00 := rfl
@[simp] theorem resetRegisters_decCount : (s.resetRegisters).decCount = 0 := rfl
@[simp] theorem resetRegisters_pwmOut : (s.resetRegisters).pwmOut = false := rfl
@[simp] theorem resetRegisters_fwdValid : (s.resetRegisters).fwdValid = false := rfl
@[simp] theorem resetRegisters_fwdData : (s.resetRegisters).fwdData = 0x00 := rfl
@[simp] theorem resetRegisters_ovr : (s.resetRegisters).ovr = false := rfl
@[simp] theorem resetRegisters_mode : (s.resetRegisters).mode = .idle := rfl
@[simp] theorem resetRegisters_idx : (s.resetRegisters).idx = 0 := rfl
@[simp] theorem resetRegisters_pending : (s.resetRegisters).pending = s.pending := rfl
@[simp] theorem resetRegisters_cycle : (s.resetRegisters).cycle = s.cycle := rfl
@[simp] theorem resetRegisters_trace : (s.resetRegisters).trace = [] := rfl

@[simp] theorem toIdle_params : (s.toIdle).params = s.params := rfl
@[simp] theorem toIdle_setpoint : (s.toIdle).setpoint = s.setpoint := rfl
@[simp] theorem toIdle_phase : (s.toIdle).phase = s.phase := rfl
@[simp] theorem toIdle_reading : (s.toIdle).reading = s.reading := rfl
@[simp] theorem toIdle_decCount : (s.toIdle).decCount = s.decCount := rfl
@[simp] theorem toIdle_pwmOut : (s.toIdle).pwmOut = s.pwmOut := rfl
@[simp] theorem toIdle_fwdValid : (s.toIdle).fwdValid = s.fwdValid := rfl
@[simp] theorem toIdle_fwdData : (s.toIdle).fwdData = s.fwdData := rfl
@[simp] theorem toIdle_ovr : (s.toIdle).ovr = s.ovr := rfl
@[simp] theorem toIdle_mode : (s.toIdle).mode = .idle := rfl
@[simp] theorem toIdle_idx : (s.toIdle).idx = 0 := rfl
@[simp] theorem toIdle_pending : (s.toIdle).pending = s.pending := rfl
@[simp] theorem toIdle_cycle : (s.toIdle).cycle = s.cycle := rfl
@[simp] theorem toIdle_trace : (s.toIdle).trace = s.trace := rfl

@[simp] theorem awaitOperand_params : (s.awaitOperand).params = s.params := rfl
@[simp] theorem awaitOperand_setpoint : (s.awaitOperand).setpoint = s.setpoint := rfl
@[simp] theorem awaitOperand_phase : (s.awaitOperand).phase = s.phase := rfl
@[simp] theorem awaitOperand_reading : (s.awaitOperand).reading = s.reading := rfl
@[simp] theorem awaitOperand_decCount : (s.awaitOperand).decCount = s.decCount := rfl
@[simp] theorem awaitOperand_pwmOut : (s.awaitOperand).pwmOut = s.pwmOut := rfl
@[simp] theorem awaitOperand_fwdValid : (s.awaitOperand).fwdValid = s.fwdValid := rfl
@[simp] theorem awaitOperand_fwdData : (s.awaitOperand).fwdData = s.fwdData := rfl
@[simp] theorem awaitOperand_ovr : (s.awaitOperand).ovr = s.ovr := rfl
@[simp] theorem awaitOperand_mode : (s.awaitOperand).mode = .arg := rfl
@[simp] theorem awaitOperand_idx : (s.awaitOperand).idx = 0 := rfl
@[simp] theorem awaitOperand_pending : (s.awaitOperand).pending = s.pending := rfl
@[simp] theorem awaitOperand_cycle : (s.awaitOperand).cycle = s.cycle := rfl
@[simp] theorem awaitOperand_trace : (s.awaitOperand).trace = s.trace := rfl

@[simp] theorem startBurst_params : (s.startBurst).params = s.params := rfl
@[simp] theorem startBurst_setpoint : (s.startBurst).setpoint = s.setpoint := rfl
@[simp] theorem startBurst_phase : (s.startBurst).phase = s.phase := rfl
@[simp] theorem startBurst_reading : (s.startBurst).reading = s.reading := rfl
@[simp] theorem startBurst_decCount : (s.startBurst).decCount = s.decCount := rfl
@[simp] theorem startBurst_pwmOut : (s.startBurst).pwmOut = s.pwmOut := rfl
@[simp] theorem startBurst_fwdValid : (s.startBurst).fwdValid = s.fwdValid := rfl
@[simp] theorem startBurst_fwdData : (s.startBurst).fwdData = s.fwdData := rfl
@[simp] theorem startBurst_ovr : (s.startBurst).ovr = s.ovr := rfl
@[simp] theorem startBurst_mode : (s.startBurst).mode = .dump := rfl
@[simp] theorem startBurst_idx : (s.startBurst).idx = s.params.burstLen := rfl
@[simp] theorem startBurst_pending : (s.startBurst).pending = s.pending := rfl
@[simp] theorem startBurst_cycle : (s.startBurst).cycle = s.cycle := rfl
@[simp] theorem startBurst_trace : (s.startBurst).trace = s.trace := rfl

@[simp] theorem startGreeting_params : (s.startGreeting).params = s.params := rfl
@[simp] theorem startGreeting_setpoint : (s.startGreeting).setpoint = s.setpoint := rfl
@[simp] theorem startGreeting_phase : (s.startGreeting).phase = s.phase := rfl
@[simp] theorem startGreeting_reading : (s.startGreeting).reading = s.reading := rfl
@[simp] theorem startGreeting_decCount : (s.startGreeting).decCount = s.decCount := rfl
@[simp] theorem startGreeting_pwmOut : (s.startGreeting).pwmOut = s.pwmOut := rfl
@[simp] theorem startGreeting_fwdValid : (s.startGreeting).fwdValid = s.fwdValid := rfl
@[simp] theorem startGreeting_fwdData : (s.startGreeting).fwdData = s.fwdData := rfl
@[simp] theorem startGreeting_ovr : (s.startGreeting).ovr = s.ovr := rfl
@[simp] theorem startGreeting_mode : (s.startGreeting).mode = .hello := rfl
@[simp] theorem startGreeting_idx : (s.startGreeting).idx = 0 := rfl
@[simp] theorem startGreeting_pending : (s.startGreeting).pending = s.pending := rfl
@[simp] theorem startGreeting_cycle : (s.startGreeting).cycle = s.cycle := rfl
@[simp] theorem startGreeting_trace : (s.startGreeting).trace = s.trace := rfl

/-- Two states with the same parameters, registers, inputs and record are the same state. -/
theorem eq_of_fields {s t : State} (h0 : s.params = t.params) (h1 : s.setpoint = t.setpoint)
    (h2 : s.phase = t.phase) (h3 : s.reading = t.reading) (h4 : s.decCount = t.decCount)
    (h5 : s.pwmOut = t.pwmOut) (h6 : s.fwdValid = t.fwdValid) (h7 : s.fwdData = t.fwdData)
    (h8 : s.ovr = t.ovr) (h9 : s.mode = t.mode) (h10 : s.idx = t.idx)
    (h11 : s.pending = t.pending) (h12 : s.cycle = t.cycle) (h13 : s.trace = t.trace) : s = t := by
  cases s
  cases t
  simp only at h0 h1 h2 h3 h4 h5 h6 h7 h8 h9 h10 h11 h12 h13
  subst h0 h1 h2 h3 h4 h5 h6 h7 h8 h9 h10 h11 h12 h13
  rfl

end Sys2Proof.Machine.State
end

