-- ==== Sys2Proof/Laws/Block.lean ====
section
/-! SUPPORT. The fields of a block taken from a state or put into one, and what each operation of a block does to `mode`. -/

namespace Sys2Proof.Machine

open Sys2Proof

section Fields

variable (s : State) (c : Block s.params)

@[simp] theorem State.block_setpoint : s.block.setpoint = s.setpoint := rfl
@[simp] theorem State.block_phase : s.block.phase = s.phase := rfl
@[simp] theorem State.block_reading : s.block.reading = s.reading := rfl
@[simp] theorem State.block_decCount : s.block.decCount = s.decCount := rfl
@[simp] theorem State.block_pwmOut : s.block.pwmOut = s.pwmOut := rfl
@[simp] theorem State.block_fwdValid : s.block.fwdValid = s.fwdValid := rfl
@[simp] theorem State.block_fwdData : s.block.fwdData = s.fwdData := rfl
@[simp] theorem State.block_ovr : s.block.ovr = s.ovr := rfl
@[simp] theorem State.block_mode : s.block.mode = s.mode := rfl
@[simp] theorem State.block_idx : s.block.idx = s.idx := rfl

@[simp] theorem State.withBlock_params : (s.withBlock c).params = s.params := rfl
@[simp] theorem State.withBlock_setpoint : (s.withBlock c).setpoint = c.setpoint := rfl
@[simp] theorem State.withBlock_phase : (s.withBlock c).phase = c.phase := rfl
@[simp] theorem State.withBlock_reading : (s.withBlock c).reading = c.reading := rfl
@[simp] theorem State.withBlock_decCount : (s.withBlock c).decCount = c.decCount := rfl
@[simp] theorem State.withBlock_pwmOut : (s.withBlock c).pwmOut = c.pwmOut := rfl
@[simp] theorem State.withBlock_fwdValid : (s.withBlock c).fwdValid = c.fwdValid := rfl
@[simp] theorem State.withBlock_fwdData : (s.withBlock c).fwdData = c.fwdData := rfl
@[simp] theorem State.withBlock_ovr : (s.withBlock c).ovr = c.ovr := rfl
@[simp] theorem State.withBlock_mode : (s.withBlock c).mode = c.mode := rfl
@[simp] theorem State.withBlock_idx : (s.withBlock c).idx = c.idx := rfl
@[simp] theorem State.withBlock_pending : (s.withBlock c).pending = s.pending := rfl
@[simp] theorem State.withBlock_cycle : (s.withBlock c).cycle = s.cycle := rfl
@[simp] theorem State.withBlock_trace : (s.withBlock c).trace = s.trace := rfl
@[simp] theorem State.withBlock_block : s.withBlock s.block = s := rfl
@[simp] theorem State.block_withBlock : (s.withBlock c).block = c := rfl

end Fields

section Facing

variable {p : Params} (c : Block p) (inp : Inputs)

@[simp] theorem Block.facing_params : (c.facing inp).params = p := rfl
@[simp] theorem Block.facing_block : (c.facing inp).block = c := rfl
@[simp] theorem Block.facing_inputs : (c.facing inp).inputs = inp := rfl
@[simp] theorem Block.facing_trace : (c.facing inp).trace = [] := rfl

@[simp] theorem Block.tick_mode : c.tick.mode = c.mode := rfl

@[simp] theorem Block.conv_mode (r : Byte) : (c.conv r).mode = c.mode := by
  unfold Block.conv
  split <;> [split <;> rfl; rfl]

/-- A byte taken by the transport while the dispatcher waits leaves it waiting (R97). -/
theorem Block.txack_mode {c : Block p} (h : c.mode = .idle ∨ c.mode = .arg) : c.txack.mode = c.mode := by
  obtain ⟨_, _, _, _, _, fwdValid, _, _, mode, _, _, _⟩ := c
  cases fwdValid <;> cases mode <;> simp at h <;> rfl

end Facing

end Sys2Proof.Machine
end

