-- ==== Sys2Proof/Laws/Decode.lean ====
section
/-! SUPPORT. What the decoder of received bytes answers, byte by byte (spec/30_encoding.md R47). -/

namespace Sys2Proof

@[simp] theorem decodeCmd_01 : decodeCmd 0x01 = .dump := rfl

@[simp] theorem decodeCmd_02 : decodeCmd 0x02 = .hello := rfl

@[simp] theorem decodeCmd_03 : decodeCmd 0x03 = .setduty := rfl

theorem decodeCmd_other {b : Byte} (h1 : b ≠ 0x01) (h2 : b ≠ 0x02) (h3 : b ≠ 0x03) :
    decodeCmd b = .nop b := by
  unfold decodeCmd cmdDump cmdHello cmdSetduty
  rw [if_neg h1, if_neg h2, if_neg h3]

/-- The four cases of a command byte. -/
theorem decodeCmd_cases (b : Byte) :
    (b = 0x01 ∧ decodeCmd b = .dump) ∨ (b = 0x02 ∧ decodeCmd b = .hello)
      ∨ (b = 0x03 ∧ decodeCmd b = .setduty)
      ∨ (b ≠ 0x01 ∧ b ≠ 0x02 ∧ b ≠ 0x03 ∧ decodeCmd b = .nop b) := by
  by_cases h1 : b = 0x01
  · exact .inl ⟨h1, h1 ▸ decodeCmd_01⟩
  by_cases h2 : b = 0x02
  · exact .inr (.inl ⟨h2, h2 ▸ decodeCmd_02⟩)
  by_cases h3 : b = 0x03
  · exact .inr (.inr (.inl ⟨h3, h3 ▸ decodeCmd_03⟩))
  exact .inr (.inr (.inr ⟨h1, h2, h3, decodeCmd_other h1 h2 h3⟩))

@[simp] theorem decodeReceived_operand (b : Byte) : decodeReceived true b = .dutyarg b := rfl

@[simp] theorem decodeReceived_command (b : Byte) : decodeReceived false b = decodeCmd b := rfl

end Sys2Proof
end

