-- ==== Sys2Proof/Laws/Ops.lean ====
section
/-! SUPPORT. What each shared operation can do, said once: its cases, and its frame, one lemma per field. -/

namespace Sys2Proof.Machine

open Sys2Proof

theorem comparator_eq (p q : Byte) : comparator p q = decide (p.toNat < q.toNat) := rfl

@[simp] theorem ovrAfterForward_true (ovr : Bool) : ovrAfterForward ovr true = true := by
  simp [ovrAfterForward]

@[simp] theorem dutyOperand_eq (d : Byte) : dutyOperand d = d := by
  simp [dutyOperand]

@[simp] theorem sampleOperand_eq (r : Byte) : sampleOperand r = r := rfl

/-! ### What the types of `State` say of `idx` -/

theorem State.idx_of_idle {s : State} (h : s.mode = .idle) : s.idx = 0 := by
  have := s.idx_ok
  simpa [h, dispatcherInRange] using this

theorem State.idx_of_arg {s : State} (h : s.mode = .arg) : s.idx = 0 := by
  have := s.idx_ok
  simpa [h, dispatcherInRange] using this

theorem State.idx_of_dump {s : State} (h : s.mode = .dump) : 1 ≤ s.idx ∧ s.idx ≤ s.params.burstLen := by
  have := s.idx_ok
  simpa [h, dispatcherInRange] using this

theorem State.idx_of_hello {s : State} (h : s.mode = .hello) : s.idx < s.params.greeting.length := by
  have := s.idx_ok
  simpa [h, dispatcherInRange] using this

/-! ### The decimator -/

theorem State.forward_full {s : State} (r : Byte) (h : s.fwdValid = true) :
    s.forward r = s.setOvr true := by
  simp [State.forward, h]

theorem State.forward_empty {s : State} (r : Byte) (h : s.fwdValid = false) :
    s.forward r = (s.setFwdData r).setFwdValid true := by
  simp [State.forward, h]

theorem State.notify_below {s : State} (r : Byte) (h : s.decCount ≠ s.params.K) :
    s.notify r = s.setDecCount (s.decCount + 1) (Nat.lt_of_le_of_ne s.decCount_le h) := by
  simp [State.notify, h]

theorem State.notify_at {s : State} (r : Byte) (h : s.decCount = s.params.K) :
    s.notify r = (s.setDecCount 0 (Nat.zero_le _)).forward r := by
  simp [State.notify, h]

section NotifyFrame

variable (s : State) (r : Byte)

@[simp] theorem State.notify_params : (s.notify r).params = s.params := by
  unfold State.notify State.forward
  split <;> [split <;> rfl; rfl]

@[simp] theorem State.notify_setpoint : (s.notify r).setpoint = s.setpoint := by
  unfold State.notify State.forward
  split <;> [split <;> rfl; rfl]

@[simp] theorem State.notify_phase : (s.notify r).phase = s.phase := by
  unfold State.notify State.forward
  split <;> [split <;> rfl; rfl]

@[simp] theorem State.notify_reading : (s.notify r).reading = s.reading := by
  unfold State.notify State.forward
  split <;> [split <;> rfl; rfl]

@[simp] theorem State.notify_pwmOut : (s.notify r).pwmOut = s.pwmOut := by
  unfold State.notify State.forward
  split <;> [split <;> rfl; rfl]

@[simp] theorem State.notify_mode : (s.notify r).mode = s.mode := by
  unfold State.notify State.forward
  split <;> [split <;> rfl; rfl]

@[simp] theorem State.notify_idx : (s.notify r).idx = s.idx := by
  unfold State.notify State.forward
  split <;> [split <;> rfl; rfl]

@[simp] theorem State.notify_pending : (s.notify r).pending = s.pending := by
  unfold State.notify State.forward
  split <;> [split <;> rfl; rfl]

@[simp] theorem State.notify_cycle : (s.notify r).cycle = s.cycle := by
  unfold State.notify State.forward
  split <;> [split <;> rfl; rfl]

@[simp] theorem State.notify_trace : (s.notify r).trace = s.trace := by
  unfold State.notify State.forward
  split <;> [split <;> rfl; rfl]

theorem State.notify_decCount : (s.notify r).decCount = (s.decCount + 1) % (s.params.K + 1) := by
  have hle := s.decCount_le
  by_cases h : s.decCount = s.params.K
  · rw [State.notify_at r h, h, Nat.mod_self]
    unfold State.forward
    split <;> rfl
  · rw [State.notify_below r h, Nat.mod_eq_of_lt (by omega)]
    rfl

/-- The slot fills at a forward and never empties by one. -/
theorem State.notify_fwdValid :
    (s.notify r).fwdValid = (s.fwdValid || decide (s.decCount = s.params.K)) := by
  by_cases h : s.decCount = s.params.K
  · rw [State.notify_at r h]
    unfold State.forward
    cases hv : s.fwdValid <;> simp [hv, h]
  · simp [State.notify_below r h, h]

/-- Only a forward that finds the slot empty writes it. -/
theorem State.notify_fwdData :
    (s.notify r).fwdData
      = if s.decCount = s.params.K ∧ s.fwdValid = false then r else s.fwdData := by
  by_cases h : s.decCount = s.params.K
  · rw [State.notify_at r h]
    unfold State.forward
    cases hv : s.fwdValid <;> simp [hv, h]
  · simp [State.notify_below r h, h]

/-- Only a forward that finds the slot full sets `ovr`. -/
theorem State.notify_ovr :
    (s.notify r).ovr = (s.ovr || (decide (s.decCount = s.params.K) && s.fwdValid)) := by
  by_cases h : s.decCount = s.params.K
  · rw [State.notify_at r h]
    unfold State.forward
    cases hv : s.fwdValid <;> simp [hv, h]
  · simp [State.notify_below r h, h]

end NotifyFrame

/-! ### The TX port -/

theorem State.txOffer_full {s : State} (h : s.fwdValid = true) :
    s.txOffer = some (.forwarded, s.fwdData) := by
  simp [State.txOffer, h]

theorem State.txOffer_dump {s : State} (h : s.fwdValid = false) (hm : s.mode = .dump) :
    s.txOffer = some (.burst, s.reading) := by
  simp [State.txOffer, h, hm]

theorem State.txOffer_hello {s : State} (h : s.fwdValid = false) (hm : s.mode = .hello) :
    s.txOffer = some (.greeting, s.params.greeting[s.idx]'(State.idx_of_hello hm)) := by
  simp [State.txOffer, h, hm, greetingByte, State.idx_of_hello hm]

theorem State.txOffer_none {s : State} (h : s.fwdValid = false)
    (hm : s.mode = .idle ∨ s.mode = .arg) : s.txOffer = none := by
  rcases hm with hm | hm <;> simp [State.txOffer, h, hm]

/-- The port offers a byte exactly where `tx_valid` = 1 (R26). -/
theorem State.txValid_eq_isSome (s : State) : s.txValid = s.txOffer.isSome := by
  cases hv : s.fwdValid
  · cases hm : s.mode
    · simp [State.txValid, State.txOffer_none hv (.inl hm), hv, hm]
    · simp [State.txValid, State.txOffer_dump hv hm, hm]
    · simp [State.txValid, State.txOffer_hello hv hm, hm]
    · simp [State.txValid, State.txOffer_none hv (.inr hm), hv, hm]
  · simp [State.txValid, State.txOffer_full hv, hv]

theorem State.taken_full {s : State} (h : s.fwdValid = true) : s.taken = s.setFwdValid false := by
  simp [State.taken, h]

theorem State.taken_dump_last {s : State} (h : s.fwdValid = false) (hm : s.mode = .dump)
    (hi : s.idx = 1) : s.taken = s.toIdle := by
  simp [State.taken, State.burstTaken, h, hm, hi]

theorem State.taken_dump_more {s : State} (h : s.fwdValid = false) (hm : s.mode = .dump)
    (hi : s.idx ≠ 1) :
    s.taken = s.setDispatcher .dump (s.idx - 1) (burst_next_ok (hm ▸ s.idx_ok) hi) := by
  simp [State.taken, State.burstTaken, h, hm, hi]

theorem State.taken_hello_last {s : State} (h : s.fwdValid = false) (hm : s.mode = .hello)
    (hi : s.idx = s.params.greetLen - 1) : s.taken = s.toIdle := by
  simp [State.taken, State.greetingTaken, h, hm, hi]

theorem State.taken_hello_more {s : State} (h : s.fwdValid = false) (hm : s.mode = .hello)
    (hi : s.idx ≠ s.params.greetLen - 1) :
    s.taken = s.setDispatcher .hello (s.idx + 1) (greeting_next_ok (hm ▸ s.idx_ok) hi) := by
  simp [State.taken, State.greetingTaken, h, hm, hi]

/-- Everything `taken` can do: it empties a full slot, moves `mode` and `idx` on, or does nothing. -/
theorem State.taken_cases (s : State) :
    (s.fwdValid = true ∧ s.taken = s.setFwdValid false)
    ∨ (s.fwdValid = false ∧ (s.mode = .dump ∨ s.mode = .hello)
        ∧ ∃ m i h, s.taken = s.setDispatcher m i h)
    ∨ (s.fwdValid = false ∧ (s.mode = .idle ∨ s.mode = .arg) ∧ s.taken = s) := by
  cases hv : s.fwdValid
  · right
    cases hm : s.mode
    · right; simp [State.taken, hv, hm]
    · left
      refine ⟨rfl, .inl rfl, ?_⟩
      by_cases hi : s.idx = 1
      · exact ⟨_, _, _, State.taken_dump_last hv hm hi⟩
      · exact ⟨_, _, _, State.taken_dump_more hv hm hi⟩
    · left
      refine ⟨rfl, .inr rfl, ?_⟩
      by_cases hi : s.idx = s.params.greetLen - 1
      · exact ⟨_, _, _, State.taken_hello_last hv hm hi⟩
      · exact ⟨_, _, _, State.taken_hello_more hv hm hi⟩
    · right; simp [State.taken, hv, hm]
  · left; exact ⟨rfl, State.taken_full hv⟩

section TakenFrame

variable (s : State)

@[simp] theorem State.taken_params : s.taken.params = s.params := by
  rcases s.taken_cases with ⟨-, h⟩ | ⟨-, -, m, i, hi, h⟩ | ⟨-, -, h⟩ <;> rw [h] <;> rfl

@[simp] theorem State.taken_setpoint : s.taken.setpoint = s.setpoint := by
  rcases s.taken_cases with ⟨-, h⟩ | ⟨-, -, m, i, hi, h⟩ | ⟨-, -, h⟩ <;> rw [h] <;> rfl

@[simp] theorem State.taken_phase : s.taken.phase = s.phase := by
  rcases s.taken_cases with ⟨-, h⟩ | ⟨-, -, m, i, hi, h⟩ | ⟨-, -, h⟩ <;> rw [h] <;> rfl

@[simp] theorem State.taken_reading : s.taken.reading = s.reading := by
  rcases s.taken_cases with ⟨-, h⟩ | ⟨-, -, m, i, hi, h⟩ | ⟨-, -, h⟩ <;> rw [h] <;> rfl

@[simp] theorem State.taken_decCount : s.taken.decCount = s.decCount := by
  rcases s.taken_cases with ⟨-, h⟩ | ⟨-, -, m, i, hi, h⟩ | ⟨-, -, h⟩ <;> rw [h] <;> rfl

@[simp] theorem State.taken_pwmOut : s.taken.pwmOut = s.pwmOut := by
  rcases s.taken_cases with ⟨-, h⟩ | ⟨-, -, m, i, hi, h⟩ | ⟨-, -, h⟩ <;> rw [h] <;> rfl

@[simp] theorem State.taken_fwdData : s.taken.fwdData = s.fwdData := by
  rcases s.taken_cases with ⟨-, h⟩ | ⟨-, -, m, i, hi, h⟩ | ⟨-, -, h⟩ <;> rw [h] <;> rfl

@[simp] theorem State.taken_ovr : s.taken.ovr = s.ovr := by
  rcases s.taken_cases with ⟨-, h⟩ | ⟨-, -, m, i, hi, h⟩ | ⟨-, -, h⟩ <;> rw [h] <;> rfl

@[simp] theorem State.taken_pending : s.taken.pending = s.pending := by
  rcases s.taken_cases with ⟨-, h⟩ | ⟨-, -, m, i, hi, h⟩ | ⟨-, -, h⟩ <;> rw [h] <;> rfl

@[simp] theorem State.taken_cycle : s.taken.cycle = s.cycle := by
  rcases s.taken_cases with ⟨-, h⟩ | ⟨-, -, m, i, hi, h⟩ | ⟨-, -, h⟩ <;> rw [h] <;> rfl

@[simp] theorem State.taken_trace : s.taken.trace = s.trace := by
  rcases s.taken_cases with ⟨-, h⟩ | ⟨-, -, m, i, hi, h⟩ | ⟨-, -, h⟩ <;> rw [h] <;> rfl

@[simp] theorem State.taken_fwdValid : s.taken.fwdValid = false := by
  rcases s.taken_cases with ⟨-, h⟩ | ⟨hv, -, m, i, hi, h⟩ | ⟨hv, -, h⟩
  · rw [h]; rfl
  · rw [h]; exact hv
  · rw [h]; exact hv

end TakenFrame

end Sys2Proof.Machine
end

