-- ==== Sys2Proof/Laws/PerInstr.lean ====
section
/-! SUPPORT. A statement about every operation as syntax, one lemma per constructor. -/

namespace Sys2Proof.Laws

open Sys2Proof

/-- A well-formed operation's bits are covered by a row of the opcode table that bears its name and its format. -/
def RowCoverage.Statement (i : Instr) : Prop :=
  WellFormed i = true →
    ∃ row ∈ tableRows, row.mnemonic = i.mnemonic ∧ row.format = (encode i).format
      ∧ row.covers (encode i).word = true

theorem RowCoverage.tick : RowCoverage.Statement .tick := fun _ => by decide

theorem RowCoverage.conv (r : Byte) : RowCoverage.Statement (.conv r) := fun _ =>
  ⟨⟨"CONV", .ev, 0x2, 0x2⟩, by decide, rfl, rfl, by simp [TableRow.covers, encode]⟩

theorem RowCoverage.rx (b : Byte) : RowCoverage.Statement (.rx b) := fun _ =>
  ⟨⟨"RX", .ev, 0x4, 0x4⟩, by decide, rfl, rfl, by simp [TableRow.covers, encode]⟩

theorem RowCoverage.txack : RowCoverage.Statement .txack := fun _ => by decide

theorem RowCoverage.reset : RowCoverage.Statement .reset := fun _ => by decide

theorem RowCoverage.dump : RowCoverage.Statement .dump := fun _ => by decide

theorem RowCoverage.hello : RowCoverage.Statement .hello := fun _ => by decide

theorem RowCoverage.setduty : RowCoverage.Statement .setduty := fun _ => by decide

set_option maxRecDepth 4000 in
theorem RowCoverage.nop (b : Byte) : RowCoverage.Statement (.nop b) := by
  unfold RowCoverage.Statement
  revert b
  decide

theorem RowCoverage.dutyarg (d : Byte) : RowCoverage.Statement (.dutyarg d) := fun _ =>
  ⟨⟨"DUTYARG", .arg, 0x00, 0x00⟩, by decide, rfl, rfl, by simp [TableRow.covers]⟩

end Sys2Proof.Laws
end

