-- ==== Sys2Proof/Laws/Step.lean ====
section
/-! SUPPORT. The meanings as next states, runs of operations, and the record read line by line. -/

namespace Sys2Proof.Machine

open Sys2Proof

/-! ### Each meaning, where its event happens -/

theorem exec_dump_idle {s : State} (h : s.mode = .idle) :
    exec .dump s = .next (s.startBurst.record (.rx cmdDump)) := by
  simp [exec, execDump, h]

theorem exec_hello_idle {s : State} (h : s.mode = .idle) :
    exec .hello s = .next (s.startGreeting.record (.rx cmdHello)) := by
  simp [exec, execHello, h]

theorem exec_setduty_idle {s : State} (h : s.mode = .idle) :
    exec .setduty s = .next (s.awaitOperand.record (.rx cmdSetduty)) := by
  simp [exec, execSetduty, h]

theorem exec_nop_idle {s : State} (b : Byte) (h : s.mode = .idle) :
    exec (.nop b) s = .next (s.record (.rx b)) := by
  simp [exec, execNop, h]

theorem exec_dutyarg_arg {s : State} (d : Byte) (h : s.mode = .arg) :
    exec (.dutyarg d) s = .next (((s.setSetpoint d).toIdle).record (.rx d)) := by
  simp [exec, execDutyarg, h]

theorem exec_txack_offer {s : State} {k : TxKind} {b : Byte} (h : s.txOffer = some (k, b)) :
    exec .txack s = .next (s.taken.record (.txack k b)) := by
  simp [exec, execTxack, h]

theorem exec_txack_none {s : State} (h : s.txOffer = none) : exec .txack s = .next s := by
  simp [exec, execTxack, h]

theorem received_idle {s : State} (b : Byte) (h : s.mode = .idle) : s.received b = decodeCmd b := by
  simp [State.received, h]

theorem received_arg {s : State} (b : Byte) (h : s.mode = .arg) : s.received b = .dutyarg b := by
  simp [State.received, h]

@[simp] theorem rxReady_iff (s : State) : s.rxReady = true ↔ s.mode = .idle ∨ s.mode = .arg := by
  simp [State.rxReady]

/-- `RX` without a handshake: the byte waits in the transport (R81, R90). -/
theorem exec_rx_not_ready {s : State} (b : Byte) (h : s.rxReady = false) :
    exec (.rx b) s = .next s := by
  simp [exec, execRx, h]

/-! ### Runs of operations -/

@[simp] theorem runOps_nil (s : State) : runOps [] s = .next s := rfl

theorem runOps_cons_next {i : Instr} {is : List Instr} {s t : State} (h : exec i s = .next t) :
    runOps (i :: is) s = runOps is t := by
  simp [runOps, h]

theorem runOps_append_next {is js : List Instr} {s t : State} (h : runOps is s = .next t) :
    runOps (is ++ js) s = runOps js t := by
  induction is generalizing s with
  | nil =>
    simp only [runOps_nil, Host.Outcome.next.injEq] at h
    simp [h]
  | cons i is ih =>
    simp only [List.cons_append, runOps] at h ⊢
    cases he : exec i s with
    | next u =>
      rw [he] at h
      exact ih h
    | fault r => rw [he] at h; cases h
    | refused r => rw [he] at h; cases h

/-! ### The outputs of a state whose handshake line has not moved -/

@[simp] theorem sampled_txValid (s : State) : s.sampled.txValid = s.txValid := rfl

@[simp] theorem sampled_rxReady (s : State) : s.sampled.rxReady = s.rxReady := rfl

@[simp] theorem sampled_txOffer (s : State) : s.sampled.txOffer = s.txOffer := rfl

theorem inputs_of_pending {s : State} {inp : Inputs} {rest : List Inputs}
    (h : s.pending = inp :: rest) : s.inputs = inp := by
  simp [State.inputs, h]

end Sys2Proof.Machine

namespace Sys2Proof.Safety

open Sys2Proof Sys2Proof.Machine

/-! ### Runs of clock cycles -/

theorem reaches_zero (s : State) : Reaches 0 s s := rfl

theorem run_succ (M : Host.Core) (k : Nat) (s : M.State) :
    M.run (k + 1) s = match M.step s with
      | .next s' => M.run k s'
      | .fault r => .fault r
      | .refused r => .refused r := rfl

theorem reaches_succ {n : Nat} {s t u : State} (hs : step s = .next t) (hr : Reaches n t u) :
    Reaches (n + 1) s u := by
  have hs' : Sys2Proof.core.step s = .next t := hs
  have h := run_succ Sys2Proof.core n s
  rw [hs'] at h
  exact h.trans hr

/-! ### The record is read line by line -/

@[simp] theorem pwmLevels_append (l m : List TraceLine) :
    pwmLevels (l ++ m) = pwmLevels l ++ pwmLevels m := by simp [pwmLevels]

@[simp] theorem conversions_append (l m : List TraceLine) :
    conversions (l ++ m) = conversions l ++ conversions m := by simp [conversions]

@[simp] theorem receivedBytes_append (l m : List TraceLine) :
    receivedBytes (l ++ m) = receivedBytes l ++ receivedBytes m := by simp [receivedBytes]

@[simp] theorem sentBytes_append (l m : List TraceLine) :
    sentBytes (l ++ m) = sentBytes l ++ sentBytes m := by simp [sentBytes]

@[simp] theorem sentOfKind_append (k : TxKind) (l m : List TraceLine) :
    sentOfKind k (l ++ m) = sentOfKind k l ++ sentOfKind k m := by simp [sentOfKind]

section Lines

variable (v : Bool) (b : Byte) (k k' : TxKind) (l : List TraceLine)

@[simp] theorem pwmLevels_nil : pwmLevels [] = [] := rfl
@[simp] theorem pwmLevels_tick : pwmLevels (.tick v :: l) = v :: pwmLevels l := rfl
@[simp] theorem pwmLevels_conv : pwmLevels (.conv b :: l) = pwmLevels l := rfl
@[simp] theorem pwmLevels_rx : pwmLevels (.rx b :: l) = pwmLevels l := rfl
@[simp] theorem pwmLevels_txack : pwmLevels (.txack k b :: l) = pwmLevels l := rfl
@[simp] theorem conversions_nil : conversions [] = [] := rfl
@[simp] theorem conversions_tick : conversions (.tick v :: l) = conversions l := rfl
@[simp] theorem conversions_conv : conversions (.conv b :: l) = b :: conversions l := rfl
@[simp] theorem conversions_rx : conversions (.rx b :: l) = conversions l := rfl
@[simp] theorem conversions_txack : conversions (.txack k b :: l) = conversions l := rfl
@[simp] theorem receivedBytes_nil : receivedBytes [] = [] := rfl
@[simp] theorem receivedBytes_tick : receivedBytes (.tick v :: l) = receivedBytes l := rfl
@[simp] theorem receivedBytes_conv : receivedBytes (.conv b :: l) = receivedBytes l := rfl
@[simp] theorem receivedBytes_rx : receivedBytes (.rx b :: l) = b :: receivedBytes l := rfl
@[simp] theorem receivedBytes_txack : receivedBytes (.txack k b :: l) = receivedBytes l := rfl
@[simp] theorem sentBytes_nil : sentBytes [] = [] := rfl
@[simp] theorem sentBytes_tick : sentBytes (.tick v :: l) = sentBytes l := rfl
@[simp] theorem sentBytes_conv : sentBytes (.conv b :: l) = sentBytes l := rfl
@[simp] theorem sentBytes_rx : sentBytes (.rx b :: l) = sentBytes l := rfl
@[simp] theorem sentBytes_txack : sentBytes (.txack k b :: l) = b :: sentBytes l := rfl
@[simp] theorem sentOfKind_nil : sentOfKind k [] = [] := rfl
@[simp] theorem sentOfKind_tick : sentOfKind k (.tick v :: l) = sentOfKind k l := rfl
@[simp] theorem sentOfKind_conv : sentOfKind k (.conv b :: l) = sentOfKind k l := rfl
@[simp] theorem sentOfKind_rx : sentOfKind k (.rx b :: l) = sentOfKind k l := rfl
@[simp] theorem sentOfKind_txack :
    sentOfKind k (.txack k' b :: l) = (if k' = k then [b] else []) ++ sentOfKind k l := by
  unfold sentOfKind
  by_cases h : k' = k <;> simp [h]

end Lines

theorem commands_append_one (bytes : List Byte) (b : Byte) :
    commands (bytes ++ [b]) = (commands bytes).take b := by
  simp [commands]

/-- One more conversion is due to be forwarded exactly where its number is `K` modulo `K + 1`. -/
theorem dueForwards_append_one (K : Nat) (convs : List Byte) (r : Byte) :
    dueForwards K (convs ++ [r])
      = dueForwards K convs ++ (if convs.length % (K + 1) = K then [r] else []) := by
  unfold dueForwards
  rw [List.zipIdx_append, List.filter_append, List.map_append]
  by_cases h : convs.length % (K + 1) = K <;> simp [h]

end Sys2Proof.Safety
end

