-- ==== Sys2Proof/Tests/Slice0.lean ====
section
/-! SUPPORT. The author's own tests. The expected values are the vectors V1 to V72 and programs P1 to P6 of
spec/95_test_vectors.md and the encodings of spec/30_encoding.md; each test names its source. A theorem `witness_<Name>`
shows concrete states and operands that meet the hypotheses of `Obligations.<Name>`, each clause at the ends of its range. -/

namespace Sys2Proof.Tests

open Sys2Proof Sys2Proof.Machine Sys2Proof.Safety Sys2Proof.Frame

/-! ### Small states -/

/-- A state of the reference block, written as the tuple of spec/95_test_vectors.md, with the inputs of the cycles to come. -/
def st (setpoint phase reading : Byte) (decCount : Nat) (pwmOut fwdValid : Bool) (fwdData : Byte)
    (ovr : Bool) (mode : Mode) (idx : Nat) (pending : List Inputs := [])
    (hd : decCount ≤ 10 := by decide)
    (hi : dispatcherInRange Params.reference mode idx = true := by decide) : State where
  params := Params.reference
  setpoint := setpoint
  phase := phase
  reading := reading
  decCount := decCount
  pwmOut := pwmOut
  fwdValid := fwdValid
  fwdData := fwdData
  ovr := ovr
  mode := mode
  idx := idx
  pending := pending
  cycle := 0
  trace := []
  decCount_le := hd
  idx_ok := hi

/-- The state of an outcome that has one. -/
def stateOf : Host.Outcome State Fault Refusal → Option State
  | .next t => some t
  | .fault _ => none
  | .refused _ => none

/-- What a test reads of an outcome. -/
def read {α : Type} (f : State → α) (o : Host.Outcome State Fault Refusal) : Option α := (stateOf o).map f

def pwmOf (s : State) : Bool × Byte := (s.pwmOut, s.phase)

def samplerOf (s : State) : Byte × Nat × Bool × Byte × Bool :=
  (s.reading, s.decCount, s.fwdValid, s.fwdData, s.ovr)

def dispatcherOf (s : State) : Byte × Mode × Nat := (s.setpoint, s.mode, s.idx)

def portOf (s : State) : Bool × Mode × Nat × List Byte := (s.fwdValid, s.mode, s.idx, sentBytes s.trace)

/-- A cycle of the PWM engine. -/
def pwmState (phase setpoint : Byte) : State := st setpoint phase 0 0 false false 0 false .idle 0

/-- The dispatcher waiting for a byte. -/
def idleState (setpoint : Byte) : State := st setpoint 0 0 0 false false 0 false .idle 0

/-- The dispatcher waiting for an operand. -/
def argState (setpoint : Byte) : State := st setpoint 0 0 0 false false 0 false .arg 0

/-- An input cycle with the given strobes and data. -/
def wires (tick conv : Bool) (adc : Byte) (rxv : Bool) (rx : Byte) (txr : Bool) : Inputs :=
  ⟨false, tick, conv, adc, rxv, rx, txr⟩

/-! ### Well-formedness refuses an ill-formed term for each check (R55) -/

theorem test_nop_of_dump_refused : WellFormed (.nop 0x01) = false := by decide
theorem test_nop_of_hello_refused : WellFormed (.nop 0x02) = false := by decide
theorem test_nop_of_setduty_refused : WellFormed (.nop 0x03) = false := by decide
theorem test_nop_of_others_accepted :
    WellFormed (.nop 0x00) = true ∧ WellFormed (.nop 0x04) = true ∧ WellFormed (.nop 0xFF) = true := by decide

/-! ### Decoding: words written out from R45 to R48 and R52 -/

theorem test_decode_tick : decode ⟨.ev, 0b0001, 0⟩ = .ok .tick := rfl
theorem test_decode_conv : decode ⟨.ev, 0b0010, 0b01011010⟩ = .ok (.conv 0x5A) := rfl
theorem test_decode_rx : decode ⟨.ev, 0b0100, 0b10000011⟩ = .ok (.rx 0x83) := rfl
theorem test_decode_txack : decode ⟨.ev, 0b1000, 0⟩ = .ok .txack := rfl
theorem test_decode_reset : decode ⟨.rst, 0b1, 0⟩ = .ok .reset := rfl
theorem test_decode_dump : decode ⟨.cmd, 0b00000001, 0⟩ = .ok .dump := rfl
theorem test_decode_hello : decode ⟨.cmd, 0b00000010, 0⟩ = .ok .hello := rfl
theorem test_decode_setduty : decode ⟨.cmd, 0b00000011, 0⟩ = .ok .setduty := rfl
theorem test_decode_nop : decode ⟨.cmd, 0b10000011, 0⟩ = .ok (.nop 0x83) := rfl
theorem test_decode_dutyarg : decode ⟨.arg, 0b00000011, 0⟩ = .ok (.dutyarg 0x03) := rfl
theorem test_decode_idle_cycle_rejected : decode ⟨.ev, 0b0000, 0⟩ = .error .noOperation := rfl
theorem test_decode_two_events_rejected : decode ⟨.ev, 0b1001, 0⟩ = .error .severalOperations := rfl
theorem test_decode_wide_rejected : decode ⟨.ev, 0b10001, 0⟩ = .error .tooWide := rfl

/-- R52: all four events at one edge, in the order of R38. -/
theorem test_decode_all_events :
    decodeEvents 0b1111 0x77 0x20 = [.txack, .tick, .conv 0x77, .rx 0x20] := by decide

theorem test_table_words :
    decodeTableWord 8 0x01 = some .dump ∧ decodeTableWord 8 0x02 = some .hello
      ∧ decodeTableWord 8 0x03 = some .setduty ∧ decodeTableWord 8 0x80 = some (.nop 0x80)
      ∧ decodeTableWord 4 0x1 = some .tick ∧ decodeTableWord 4 0x2 = some (.conv 0)
      ∧ decodeTableWord 4 0x4 = some (.rx 0) ∧ decodeTableWord 4 0x8 = some .txack
      ∧ decodeTableWord 1 0x1 = some .reset := by decide

/-- The bits of `CMD` and `ARG` are told apart by `mode` alone (R49). -/
theorem test_received_by_mode :
    (idleState 0x40).received 0x03 = .setduty ∧ (argState 0x40).received 0x03 = .dutyarg 0x03 := by decide

/-- V41: in `DUMP` no byte is taken. -/
theorem test_no_rx_in_dump :
    (st 0x40 0 0 0 false false 0 false .dump 7 [wires false false 0 true 0x03 false]).cycleOps = [] := by decide

/-! ### A placed table word is the next step's operation -/

theorem test_placed_dump :
    read dispatcherOf (step (State.reset.withFetchWord 8 0x01)) = some (0x00, .dump, 100) := by decide
theorem test_placed_setduty :
    read dispatcherOf (step (State.reset.withFetchWord 8 0x03)) = some (0x00, .arg, 0) := by decide
theorem test_placed_tick :
    read pwmOf (step (State.reset.withFetchWord 4 0x1)) = some (false, 0x01) := by decide
theorem test_placed_conv :
    read samplerOf (step (State.reset.withFetchWord 4 0x2)) = some (0x00, 1, false, 0x00, false) := by decide
theorem test_placed_txack :
    read (fun t => t.trace) (step (State.reset.withFetchWord 4 0x8))
      = some [.txack .forwarded 0x00] := by decide
theorem test_placed_rx :
    read (fun t => t.trace) (step (State.reset.withFetchWord 4 0x4)) = some [.rx 0x00] := by decide
theorem test_placed_reset :
    read (fun t => t.cycle) (step (State.reset.withFetchWord 1 0x1)) = some 1 := by decide

/-! ### TICK -/

theorem test_tick_V2_V3 :
    read pwmOf (exec .tick (pwmState 0x00 0x01)) = some (true, 0x01)
      ∧ read pwmOf (exec .tick (pwmState 0x01 0x01)) = some (false, 0x02) := by decide

/-- V9, V11: the compare is unsigned, and 255 wraps to 0. -/
theorem test_tick_V9_V11 :
    read pwmOf (exec .tick (pwmState 0x00 0x80)) = some (true, 0x01)
      ∧ read pwmOf (exec .tick (pwmState 0xFF 0xFF)) = some (false, 0x00) := by decide

/-! ### CONV -/

theorem test_conv_V21_V22 :
    read samplerOf (exec (.conv 0x5B) (st 0 0 0x5A 9 false false 0x00 false .idle 0))
        = some (0x5B, 10, false, 0x00, false)
      ∧ read samplerOf (exec (.conv 0x5C) (st 0 0 0x5B 10 false false 0x00 false .idle 0))
        = some (0x5C, 0, true, 0x5C, false) := by decide

/-- V24 and V25: an overrun, and the `TXACK` at the same edge that prevents it. -/
theorem test_conv_V24_V25 :
    read samplerOf (exec (.conv 0x66) (st 0 0 0x33 10 false true 0x55 false .idle 0))
        = some (0x66, 0, true, 0x55, true)
      ∧ read (fun t => (samplerOf t, sentBytes t.trace))
          (step (st 0 0 0x33 10 false true 0x55 false .idle 0 [wires false true 0x66 false 0 true]))
        = some ((0x66, 0, true, 0x66, false), [0x55]) := by decide

/-! ### RX and the five things a byte can be -/

theorem test_rx_V33_V34 :
    read dispatcherOf (exec (.rx 0x80) (argState 0x40)) = some (0x80, .idle, 0)
      ∧ read dispatcherOf (exec (.rx 0x03) (argState 0x40)) = some (0x03, .idle, 0) := by decide
theorem test_rx_V41 :
    read dispatcherOf (exec (.rx 0x03) (st 0x40 0 0 0 false false 0 false .dump 7)) = some (0x40, .dump, 7) := by
  decide
theorem test_dump_V30 : read dispatcherOf (exec .dump (idleState 0)) = some (0x00, .dump, 100) := by decide
theorem test_hello_V31 : read dispatcherOf (exec .hello (idleState 0)) = some (0x00, .hello, 0) := by decide
theorem test_setduty_V32 : read dispatcherOf (exec .setduty (idleState 0x40)) = some (0x40, .arg, 0) := by decide
theorem test_nop_V40 : read dispatcherOf (exec (.nop 0x83) (idleState 0x40)) = some (0x40, .idle, 0) := by decide
theorem test_dutyarg_V36 : read dispatcherOf (exec (.dutyarg 0xFF) (argState 0x40)) = some (0xFF, .idle, 0) := by
  decide

/-! ### TXACK -/

theorem test_txack_V52_V53 :
    read portOf (exec .txack (st 0 0 0x10 0 false false 0x77 false .dump 1)) = some (false, .idle, 0, [0x10])
      ∧ read portOf (exec .txack (st 0 0 0x10 0 false true 0x77 false .dump 5))
        = some (false, .dump, 5, [0x77]) := by decide

theorem test_txack_V55_V56 :
    read portOf (exec .txack (st 0 0 0x10 0 false false 0x77 false .hello 4)) = some (false, .hello, 5, [0x6F])
      ∧ read portOf (exec .txack (st 0 0 0x10 0 false false 0x77 false .hello 5))
        = some (false, .idle, 0, [0x0A]) := by decide

/-- V58: a burst byte at the edge of a conversion carries the old reading. -/
theorem test_txack_V58 :
    read (fun t => (t.reading, portOf t))
        (step (st 0 0 0x10 0 false false 0x77 false .dump 100 [wires false true 0x99 false 0 true]))
      = some (0x99, false, .dump, 99, [0x10]) := by decide

/-- V59, V60: nothing is offered, so nothing is taken. -/
theorem test_txack_V59_V60 :
    read portOf (step (st 0 0 0x10 0 false false 0x77 false .idle 0 [wires false false 0 false 0 true]))
        = some (false, .idle, 0, [])
      ∧ read portOf (step (st 0 0 0x10 0 false false 0x77 false .arg 0 [wires false false 0 false 0 true]))
        = some (false, .arg, 0, []) := by decide

/-! ### RESET -/

/-- V70: reset overrides four events at the same edge. -/
theorem test_reset_V70 :
    read (fun t => (dispatcherOf t, pwmOf t, samplerOf t, t.trace))
        (step (st 0x80 0x37 0x66 7 true true 0x55 true .dump 42 [⟨true, true, true, 0x12, true, 0x34, true⟩]))
      = some ((0x00, .idle, 0), (false, 0x00), (0x00, 0, false, 0x00, false), []) := rfl

/-! ### Several events at one edge -/

theorem test_four_events_P5 :
    read (fun t => (dispatcherOf t, pwmOf t, samplerOf t, sentBytes t.trace))
        (step (st 0x10 0x0F 0x33 10 true true 0x55 false .arg 0 [wires true true 0x66 true 0x00 true]))
      = some ((0x00, .idle, 0), (true, 0x10), (0x66, 0, true, 0x66, false), [0x55]) := rfl

theorem test_three_events_P5b :
    read (fun t => (dispatcherOf t, pwmOf t, samplerOf t, sentBytes t.trace))
        (step (st 0x10 0x0F 0x33 10 true true 0x55 false .arg 0 [wires true true 0x66 true 0x00 false]))
      = some ((0x00, .idle, 0), (true, 0x10), (0x66, 0, true, 0x55, true), []) := rfl

/-- P5 on the ten registers alone. -/
theorem test_block_step_P5 :
    (st 0x10 0x0F 0x33 10 true true 0x55 false .arg 0).block.step (wires true true 0x66 true 0x00 true)
      = (st 0x00 0x10 0x66 0 true true 0x66 false .idle 0).block := rfl

/-! ### Witnesses: the hypotheses of the statements can be met -/

/-- One cycle's inputs, all strobes at 1. -/
def busy : Inputs := wires true true 0x66 true 0x01 true

/-- One cycle's inputs, no strobe at 1. -/
def quiet : Inputs := wires false false 0 false 0 false

theorem witness_TickLatchesThenAdvances :
    (pwmState 0x05 0x05).phase = (pwmState 0x05 0x05).setpoint
      ∧ (pwmState 0x00 0x00).setpoint = 0 ∧ (pwmState 0xFF 0xFF).phase = 255
      ∧ (pwmState 0xFE 0xFF).phase.toNat < (pwmState 0xFE 0xFF).setpoint.toNat
      ∧ Instr.tick ∈ (st 0 0 0 0 false false 0 false .idle 0 [busy]).cycleOps := by decide

/-- 256 ticks with a conversion, command bytes and a sent byte among them: `setpoint` is 0x40 at each. -/
def dutyOps : List Instr :=
  [Instr.conv 0x20, .tick, .rx 0xFF, .rx 0x01, .txack] ++ List.replicate 255 Instr.tick

theorem ticksFind_replicate (S : Byte) (n : Nat) (s : State) (h : s.setpoint = S) :
    TicksFind S (List.replicate n .tick) s := by
  induction n generalizing s with
  | zero => trivial
  | succ n ih =>
    refine ⟨fun _ => h, fun t ht => ih t ?_⟩
    cases ht
    exact h

theorem ticksFind_cons {S : Byte} {i : Instr} {is : List Instr} {s t : State}
    (hi : i = .tick → s.setpoint = S) (ht : exec i s = .next t) (h : TicksFind S is t) :
    TicksFind S (i :: is) s := by
  refine ⟨hi, fun u hu => ?_⟩
  rw [ht] at hu
  cases hu
  exact h

theorem witness_DutyCycleLaw :
    (∀ i ∈ dutyOps, i ≠ .reset) ∧ TicksFind 0x40 dutyOps (idleState 0x40)
      ∧ (dutyOps.filter (fun i => i == .tick)).length = 256 := by
  refine ⟨?_, ?_, ?_⟩
  · intro i hi
    simp only [dutyOps, List.mem_append, List.mem_cons, List.mem_replicate, List.not_mem_nil,
      or_false] at hi
    rcases hi with (rfl | rfl | rfl | rfl | rfl) | ⟨-, rfl⟩ <;> decide
  · exact ticksFind_cons nofun rfl <| ticksFind_cons (fun _ => rfl) rfl <| ticksFind_cons nofun rfl <|
      ticksFind_cons nofun rfl <| ticksFind_cons nofun rfl <| ticksFind_replicate _ _ _ rfl
  · have h : ∀ n, ((List.replicate n Instr.tick).filter (fun i => i == .tick)).length = n := by simp
    rw [dutyOps, List.filter_append, List.length_append, h]
    rfl

/-- The first and the last change of a period, and no change at all. -/
theorem witness_PulseShapeOfAChangedPeriod :
    (argState 0x80).phase = 0 ∧ (argState 0x80).mode = .arg ∧ 0 ≤ 256 ∧ 100 ≤ 256 ∧ 256 ≤ 256 := by decide

theorem witness_PwmPeriodIs256Ticks : (pwmState 0x00 0x80).phase = 0 ∧ 255 + 256 < 512 := by decide

/-- A state one tick after reset. -/
theorem witness_PwmLedgerIsKept :
    PwmLedger { pwmState 0x01 0x00 with trace := [.tick false] } ∧ PwmLedger State.reset :=
  ⟨⟨rfl, rfl⟩, ⟨rfl, rfl⟩⟩

theorem witness_ConvLatchesAndDecimates :
    (st 0 0 0 9 false true 0 false .idle 0).decCount ≠ (st 0 0 0 9 false true 0 false .idle 0).params.K
      ∧ (st 0 0 0 10 false true 0 false .idle 0).decCount = (st 0 0 0 10 false true 0 false .idle 0).params.K
      ∧ (st 0 0 0 10 false true 0 false .idle 0).fwdValid = true
      ∧ (st 0 0 0 10 false false 0 false .idle 0).fwdValid = false
      ∧ Instr.conv 0x66 ∈ (st 0 0 0 10 false false 0 false .idle 0 [busy]).cycleOps := by decide

/-- Both sides of the counter's end, and a block with `K` = 0. -/
theorem witness_DecCountRange :
    (st 0 0 0 9 false false 0 false .idle 0).decCount < (st 0 0 0 9 false false 0 false .idle 0).params.K
      ∧ (State.resetWith ⟨0, 1, [0x21], by decide⟩).params.K = 0
      ∧ (State.resetWith ⟨0, 1, [0x21], by decide⟩).fwdValid = false := by decide

theorem witness_OverrunFlagIsStickyAndUnread :
    (st 0 0 0 10 false true 0 false .idle 0).ovr = false
      ∧ read (fun t => t.ovr) (exec (.conv 1) (st 0 0 0 10 false true 0 false .idle 0)) = some true
      ∧ (st 0 0 0 3 false true 0 true .idle 0).ovr = true
      ∧ read (fun t => t.ovr) (exec .reset (st 0 0 0 3 false true 0 true .idle 0)) = some false := by decide

/-- Ten conversions, the most that `K` = 10 allows, with a full slot and no `TXACK`. -/
theorem witness_OverrunNeedsKPlusOneConversions :
    (st 0 0 0 0 false true 0x5C false .idle 0).decCount = 0
      ∧ (st 0 0 0 0 false true 0x5C false .idle 0).ovr = false
      ∧ ((List.replicate 10 (Instr.conv 0x01) ++ [Instr.tick]).filter isConv).length
        ≤ (st 0 0 0 0 false true 0x5C false .idle 0).params.K := by decide

/-- A state one conversion after reset, of a block with `K` = 0: the byte sits in the slot. -/
theorem witness_DecimatorLedgerIsKept :
    DecimatorLedger State.reset
      ∧ DecimatorLedger { State.resetWith ⟨0, 1, [0x21], by decide⟩ with
          reading := 0x5A, fwdValid := true, fwdData := 0x5A, trace := [.conv 0x5A] } :=
  ⟨⟨rfl, rfl, List.Sublist.refl _, fun _ => rfl, fun h => nomatch h⟩,
    ⟨rfl, rfl, List.Sublist.refl _, fun _ => rfl, fun h => nomatch h⟩⟩

theorem witness_DumpStartsTheBurst :
    (idleState 0x40).mode = .idle ∧ (idleState 0x40).fwdValid = false := by decide

theorem witness_HelloStartsTheGreeting :
    (idleState 0x40).mode = .idle ∧ (idleState 0x40).fwdValid = false := by decide

theorem witness_SetdutyAwaitsItsOperand :
    (idleState 0x40).mode = .idle
      ∧ (st 0x40 0 0 0 false false 0 false .arg 0 [wires true true 0x66 false 0 true]).mode = .arg
      ∧ (st 0x40 0 0 0 false false 0 false .arg 0 [wires true true 0x66 false 0 true]).inputs.rst = false
      ∧ (st 0x40 0 0 0 false false 0 false .arg 0 [wires true true 0x66 false 0 true]).inputs.rxValid = false
      ∧ (st 0x40 0 0 0 false false 0 false .arg 0 [wires true true 0x66 false 0 true]).inputs.tick = true
      ∧ (st 0x40 0 0 0 false false 0 false .arg 0 [wires true true 0x66 false 0 true]).inputs.convDone = true := by
  decide

theorem witness_DutyargStoresTheSetpoint :
    (argState 0x40).mode = .arg
      ∧ (st 0x40 0 0 0 false false 0 false .arg 0 [busy]).mode = .arg
      ∧ (st 0x40 0 0 0 false false 0 false .arg 0 [busy]).inputs.rst = false
      ∧ (st 0x40 0 0 0 false false 0 false .arg 0 [busy]).inputs.rxValid = true
      ∧ (st 0x40 0 0 0 false false 0 false .arg 0 [busy]).inputs.tick = true := by decide

theorem witness_NopOnlyConsumesItsByte :
    (idleState 0x40).mode = .idle ∧ WellFormed (.nop 0x04) = true ∧ WellFormed (.nop 0xFF) = true := by decide

theorem witness_RxDecodesByMode :
    (idleState 0x40).mode = .idle ∧ (argState 0x40).mode = .arg
      ∧ Instr.rx 0x01 ∈ (st 0 0 0 0 false false 0 false .idle 0 [busy]).cycleOps
      ∧ Instr.rx 0x01 ∈ (st 0 0 0 0 false false 0 false .arg 0 [busy]).cycleOps := by decide

theorem witness_RxTakesOneByte : (idleState 0x40).rxReady = true ∧ (argState 0x40).rxReady = true := by decide

theorem witness_DispatcherTransitionsAreExactlyTheTable :
    WellFormed (.nop 0x04) = true ∧ Instr.nop 0x04 ≠ .reset
      ∧ (st 0 0 0 0 false false 0 false .dump 1).mode = .dump
      ∧ (st 0 0 0 0 false false 0 false .dump 100).mode = .dump
      ∧ (st 0 0 0 0 false false 0 false .hello 5).idx
        = (st 0 0 0 0 false false 0 false .hello 5).params.greetLen - 1 := by decide

theorem witness_NoHandshakeNoEffect :
    (st 0 0 0 0 false false 0 false .dump 7).mode ≠ .idle ∧ (idleState 0).mode ≠ .arg
      ∧ (st 0 0 0 0 false false 0 false .dump 7).rxReady = false ∧ (idleState 0).txValid = false := by decide

/-- The last byte of each response, and a byte before it. -/
theorem witness_OneCommandAtATime :
    (st 0 0 0 0 false false 0 false .dump 1 [busy]).idx = 1
      ∧ (st 0 0 0 0 false false 0 false .dump 1 [busy]).inputs.txReady = true
      ∧ (st 0 0 0 0 false false 0 false .dump 1 [busy]).fwdValid = false
      ∧ (st 0 0 0 0 false false 0 false .hello 5 [busy]).mode = .hello
      ∧ (st 0 0 0 0 false false 0 false .hello 5 [busy]).idx
        = (st 0 0 0 0 false false 0 false .hello 5 [busy]).params.greetLen - 1
      ∧ (st 0 0 0 0 false false 0 false .hello 5 [busy]).inputs.rst = false := by decide

theorem witness_DispatcherReturnsToIdle :
    (st 0 0 0 0 false false 0 false .dump 100).mode = .dump
      ∧ (st 0 0 0 0 false false 0 false .dump 1).fwdValid = false
      ∧ (st 0 0 0 0 false false 0 false .hello 0).mode = .hello
      ∧ (st 0 0 0 0 false false 0 false .hello 5).fwdValid = false
      ∧ (argState 0).mode = .arg := by decide

theorem witness_SetdutyCommandStoresAnyOperand :
    (idleState 0x40).mode = .idle
      ∧ ∀ i ∈ [Instr.tick, .conv 0x11, .tick], i = .tick ∨ ∃ r, i = .conv r := by
  refine ⟨by decide, fun i hi => ?_⟩
  simp only [List.mem_cons, List.not_mem_nil, or_false] at hi
  rcases hi with h | h | h
  · exact .inl h
  · exact .inr ⟨_, h⟩
  · exact .inl h

/-- Reset, and a burst of which one byte has been sent. -/
theorem witness_DispatcherLedgerIsKept :
    DispatcherLedger State.reset
      ∧ DispatcherLedger { st 0 0 0x10 0 false false 0 false .dump 99 with
          trace := [.rx 0x01, .txack .burst 0x10] } :=
  ⟨⟨rfl, rfl, rfl, rfl⟩, ⟨rfl, rfl, rfl, rfl⟩⟩

theorem witness_ForwardSlotGoesFirst :
    (st 0 0 0 0 false true 0x77 false .dump 5).fwdValid = true
      ∧ (st 0 0 0 0 false false 0x77 false .dump 5).mode = .dump
      ∧ (st 0 0 0 0 false false 0x77 false .hello 5).mode = .hello
      ∧ (idleState 0).fwdValid = false ∧ (argState 0).fwdValid = false := by decide

theorem witness_TxackTransfersTheOfferedByte :
    (st 0 0 0 0 false true 0x77 false .idle 0).txValid = true
      ∧ (st 0 0 0 0 false false 0 false .dump 1).txValid = true
      ∧ (st 0 0 0 0 false false 0 false .dump 100).txValid = true
      ∧ (st 0 0 0 0 false false 0 false .hello 0).txValid = true
      ∧ (st 0 0 0 0 false false 0 false .hello 5).txValid = true
      ∧ Instr.txack ∈ (st 0 0 0 0 false false 0 false .dump 1 [busy]).cycleOps := by decide

/-- A burst byte waiting while a conversion displaces it. -/
theorem witness_OfferStandsUntilTaken :
    (st 0 0 0 10 false false 0 false .dump 5 [wires false true 0x66 false 0 false]).txValid = true
      ∧ (st 0 0 0 10 false false 0 false .dump 5 [wires false true 0x66 false 0 false]).inputs.txReady = false
      ∧ (st 0 0 0 10 false false 0 false .dump 5 [wires false true 0x66 false 0 false]).inputs.rst = false
      ∧ read (fun t => t.outputs.txData)
          (step (st 0 0 0 10 false false 0 false .dump 5 [wires false true 0x66 false 0 false]))
        = some (some 0x66) := by decide

/-- A forward, then a cycle that takes the byte, or one that does not. -/
theorem witness_ForwardedByteIsTheNextOut :
    (∃ t, step (st 0 0 0 10 false false 0 false .dump 5 [wires false true 0x66 false 0 true, busy]) = .next t
        ∧ t.fwdValid = true ∧ t.inputs.rst = false ∧ t.inputs.txReady = true)
      ∧ ∃ t, step (st 0 0 0 10 false false 0 false .dump 5 [wires false true 0x66 false 0 true, quiet]) = .next t
        ∧ t.fwdValid = true ∧ t.inputs.rst = false ∧ t.inputs.txReady = false :=
  ⟨⟨_, rfl, rfl, rfl, rfl⟩, ⟨_, rfl, rfl, rfl, rfl⟩⟩

theorem witness_ResetOverridesEverything :
    (st 0x80 0x37 0x66 7 true true 0x55 true .dump 42 [{ busy with rst := true }]).inputs.rst = true := by decide

theorem witness_OutputsAfterReset :
    (st 0x80 0x37 0x66 7 true true 0x55 true .arg 0 [{ busy with rst := true }]).inputs.rst = true := by decide

/-- An active cycle, a reset cycle, and a cycle with no event. -/
theorem witness_StepIsTheCycleFunction :
    (st 0 0 0 0 false true 0 false .arg 0 [busy]).inputs.rst = false
      ∧ (st 0 0 0 0 false true 0 false .arg 0 [busy]).outputs.rxReady = true
      ∧ (st 0 0 0 0 false true 0 false .arg 0 [busy]).outputs.txValid = true
      ∧ (idleState 0).outputs.txValid = false
      ∧ (st 0 0 0 0 false false 0 false .dump 9 [quiet]).outputs.rxReady = false
      ∧ (st 0 0 0 0 false false 0 false .dump 9 [quiet]).inputs.tick = false
      ∧ (st 0 0 0 0 false false 0 false .dump 9 [quiet]).inputs.convDone = false
      ∧ (st 0 0 0 0 false false 0 false .dump 9 [quiet]).inputs.txReady = false
      ∧ (st 0 0 0 0 false true 0 false .arg 0 [{ busy with rst := true }]).inputs.rst = true := by decide

theorem witness_SameEdgeOutcomes :
    (st 0 0 0 10 false true 0x55 false .dump 5 [busy]).inputs.rst = false
      ∧ (st 0 0 0 10 false true 0x55 false .dump 5 [busy]).inputs.tick = true
      ∧ (st 0 0 0 10 false true 0x55 false .dump 5 [busy]).inputs.convDone = true
      ∧ (st 0 0 0 10 false true 0x55 false .dump 5 [busy]).decCount
        = (st 0 0 0 10 false true 0x55 false .dump 5 [busy]).params.K
      ∧ (st 0 0 0 10 false false 0x55 false .dump 5 [busy]).fwdValid = false := by decide

theorem witness_OtherEventsCommute :
    (idleState 0).mode ≠ .arg
      ∧ (st 0 0 0 9 false true 0 false .arg 0).decCount ≠ (st 0 0 0 9 false true 0 false .arg 0).params.K
      ∧ (st 0 0 0 9 false true 0 false .arg 0).rxReady = true
      ∧ (st 0 0 0 9 false true 0 false .arg 0).txValid = true
      ∧ (st 0 0 0 9 false true 0 false .dump 1).fwdValid = true
      ∧ (st 0 0 0 0 false false 0 false .hello 5).mode ≠ .dump := by decide

theorem witness_EveryStrobeIsOneEvent :
    (st 0 0xFF 0 10 false true 0 false .dump 5 [busy]).inputs.rst = false
      ∧ (st 0 0xFF 0 10 false true 0 false .dump 5 [busy]).inputs.tick = true
      ∧ (st 0 0 0 0 false false 0 false .idle 0 [quiet]).inputs.tick = false := by decide

theorem witness_EachHandshakeTransfersOneByte :
    (st 0 0 0 0 false true 0x55 false .idle 0 [busy]).inputs.rst = false
      ∧ (st 0 0 0 0 false true 0x55 false .idle 0 [busy]).outputs.txValid = true
      ∧ (st 0 0 0 0 false true 0x55 false .idle 0 [busy]).outputs.rxReady = true := by decide

theorem witness_IgnoredWiresHaveNoEffect :
    (st 0 0 0 0 false false 0 false .idle 0 [quiet]).pending = quiet :: [] ∧ quiet.convDone = false
      ∧ quiet.rxValid = false
      ∧ (st 0 0 0 0 false false 0 false .dump 9 [busy]).outputs.rxReady = false
      ∧ ({ busy with rst := true } : Inputs).rst = true := by decide

/-- Each register is moved by its writer in some state. -/
theorem witness_EachRegisterHasItsWriter :
    Instr.dutyarg 0x80 ≠ .reset
      ∧ read (fun t => t.setpoint) (exec (.dutyarg 0x80) (argState 0x40)) = some 0x80
      ∧ read (fun t => t.fwdValid) (exec (.conv 1) (st 0 0 0 10 false false 0 false .idle 0)) = some true
      ∧ read (fun t => t.fwdValid) (exec .txack (st 0 0 0 0 false true 0 false .idle 0)) = some false := by decide

theorem witness_LatencyIsOneCycle :
    (st 0 0 0 10 false false 0 false .idle 0 [busy]).inputs.rst = false
      ∧ (st 0 0 0 10 false false 0 false .idle 0 [busy]).decCount
        = (st 0 0 0 10 false false 0 false .idle 0 [busy]).params.K
      ∧ (st 0 0 0 10 false false 0 false .idle 0 [busy]).inputs.rxData = 0x01
      ∧ (st 0 0 0 10 false false 0 false .arg 0 [busy]).inputs.rxValid = true
      ∧ (st 0 0 0 10 false false 0 false .dump 1 [busy]).inputs.txReady = true
      ∧ (st 0 0 0 10 false false 0 false .hello 5 [busy]).idx
        = (st 0 0 0 10 false false 0 false .hello 5 [busy]).params.greetLen - 1 := by decide

theorem witness_SamplesNeverReachThePwm :
    (st 0x80 0x10 0x22 10 false true 0 false .arg 0 [busy]).pending = busy :: [] := by decide

theorem witness_CountersFitTheirWidths :
    (idleState 0).mode = .idle ∧ (argState 0).mode = .arg
      ∧ (st 0 0 0 10 false false 0 false .dump 100).mode = .dump
      ∧ (st 0 0 0 10 false false 0 false .hello 5).mode = .hello := by decide

theorem witness_EveryReceivedByteDecodes :
    (0x00 : Byte) ≠ 0x01 ∧ (0x00 : Byte) ≠ 0x02 ∧ (0x00 : Byte) ≠ 0x03
      ∧ (0x04 : Byte) ≠ 0x01 ∧ (0x04 : Byte) ≠ 0x02 ∧ (0x04 : Byte) ≠ 0x03 := by decide

/-- The wires of each operation, in a state that enables it. -/
theorem witness_StepRunsTheDecodedOperation :
    (WellFormed .tick = true ∧ Enabled .tick State.reset)
      ∧ (WellFormed (.conv 0xFF) = true ∧ Enabled (.conv 0xFF) State.reset)
      ∧ (WellFormed (.rx 0x83) = true ∧ Enabled (.rx 0x83) State.reset ∧ Enabled (.rx 0x83) (argState 0))
      ∧ (WellFormed .txack = true ∧ Enabled .txack (st 0 0 0 0 false true 0 false .idle 0)
          ∧ Enabled .txack (st 0 0 0 0 false false 0 false .dump 1))
      ∧ (WellFormed .reset = true ∧ Enabled .reset State.reset)
      ∧ (WellFormed .dump = true ∧ Enabled .dump State.reset)
      ∧ (WellFormed .hello = true ∧ Enabled .hello State.reset)
      ∧ (WellFormed .setduty = true ∧ Enabled .setduty State.reset)
      ∧ (WellFormed (.nop 0xFF) = true ∧ Enabled (.nop 0xFF) State.reset)
      ∧ (WellFormed (.dutyarg 0xFF) = true ∧ Enabled (.dutyarg 0xFF) (argState 0))
      ∧ (st 0 0 0 0 false false 0 false .arg 0 [(encode (.dutyarg 0xFF)).wires]).pending
        = (encode (.dutyarg 0xFF)).wires :: [] :=
  ⟨⟨rfl, trivial⟩, ⟨rfl, trivial⟩, ⟨rfl, rfl, rfl⟩, ⟨rfl, rfl, rfl⟩, ⟨rfl, trivial⟩, ⟨rfl, rfl⟩, ⟨rfl, rfl⟩,
    ⟨rfl, rfl⟩, ⟨rfl, rfl⟩, ⟨rfl, rfl⟩, rfl⟩

theorem witness_UnplacedCycleRunsOnTheEnvironment : State.reset.pending = [] := rfl

theorem witness_DecodeInvertsEncode :
    WellFormed (.nop 0x00) = true ∧ WellFormed (.conv 0xFF) = true ∧ WellFormed .reset = true
      ∧ encode (.rx 0x05) = encode (.rx 0x05) := by decide

/-- An operation that samples the data wire, each way, and two that do not. -/
theorem witness_EncodeInvertsDecode :
    decode ⟨.ev, 0x2, 0x5A⟩ = .ok (.conv 0x5A) ∧ decode ⟨.ev, 0x4, 0xFF⟩ = .ok (.rx 0xFF)
      ∧ (decode ⟨.ev, 0x1, 0x5A⟩ = .ok .tick ∧ ∀ b, Instr.tick ≠ .conv b ∧ Instr.tick ≠ .rx b)
      ∧ (decode ⟨.cmd, 0xFF, 0x5A⟩ = .ok (.nop 0xFF) ∧ ∀ b, Instr.nop 0xFF ≠ .conv b ∧ Instr.nop 0xFF ≠ .rx b) :=
  ⟨rfl, rfl, ⟨rfl, fun _ => ⟨nofun, nofun⟩⟩, ⟨rfl, fun _ => ⟨nofun, nofun⟩⟩⟩

end Sys2Proof.Tests
end

section
/-! SUPPORT. Proofs of the statements of spec/00_scope.md: what a step leaves around the block (R5), and that the analog
results never reach the PWM (R4). -/

namespace Sys2Proof.Frame

open Sys2Proof Sys2Proof.Machine

theorem Surroundings.refl (s : State) : Surroundings s s := ⟨rfl, rfl, rfl⟩

theorem Surroundings.trans {s t u : State} (h : Surroundings s t) (h' : Surroundings t u) :
    Surroundings s u := by
  obtain ⟨hp, hq, hc⟩ := h
  obtain ⟨hp', hq', hc'⟩ := h'
  exact ⟨hp'.trans hp, hq'.trans hq, hc'.trans hc⟩

end Sys2Proof.Frame

namespace Sys2Proof.Machine

open Sys2Proof Sys2Proof.Safety Sys2Proof.Frame

/-! ### `RX` and `TXACK` by their handshakes -/

/-- Where a byte can be taken, `RX` is the operation the byte is read as in the present mode (R81). -/
theorem exec_rx_ready {s : State} (b : Byte) (h : s.rxReady = true) :
    exec (.rx b) s = exec (s.received b).toInstr s := by
  simp only [exec, execRx, h, if_true]
  cases s.received b <;> rfl

/-- Where a byte is offered, `TXACK` moves its source on and records the byte (R97). -/
theorem exec_txack_valid {s : State} (h : s.txValid = true) :
    ∃ k b, exec .txack s = .next (s.taken.record (.txack k b)) := by
  rw [State.txValid_eq_isSome] at h
  obtain ⟨⟨k, b⟩, ho⟩ := Option.isSome_iff_exists.mp h
  exact ⟨k, b, exec_txack_offer ho⟩

/-- Where no byte is offered, `TXACK` does nothing (assumption 4). -/
theorem exec_txack_not_valid {s : State} (h : s.txValid = false) : exec .txack s = .next s := by
  rw [State.txValid_eq_isSome, Option.isSome_eq_false_iff, Option.isNone_iff_eq_none] at h
  exact exec_txack_none h

/-- The transport moves nothing on while no byte is offered. -/
theorem State.taken_waiting {s : State} (h : s.fwdValid = false) (hm : s.mode = .idle ∨ s.mode = .arg) :
    s.taken = s := by
  rcases hm with hm | hm <;> simp [State.taken, h, hm]

/-! ### What surrounds the block -/

/-- What a received byte is read as leaves the surroundings of the block alone. -/
theorem exec_received_surroundings (c : Received) (s : State) :
    ∃ t, exec c.toInstr s = .next t ∧ Surroundings s t := by
  cases c <;> refine ⟨_, rfl, ?_⟩ <;> split <;> exact ⟨rfl, rfl, rfl⟩

/-- Every operation answers a next state and leaves the parameters, the placed inputs and the cycle count alone. -/
theorem exec_surroundings (i : Instr) (s : State) :
    ∃ t, exec i s = .next t ∧ Surroundings s t := by
  cases i with
  | tick => exact ⟨_, rfl, rfl, rfl, rfl⟩
  | conv r => exact ⟨_, rfl, by simp [Surroundings]⟩
  | rx b =>
    cases h : s.rxReady
    · exact ⟨s, exec_rx_not_ready b h, Surroundings.refl s⟩
    · rw [exec_rx_ready b h]
      exact exec_received_surroundings _ s
  | txack =>
    cases h : s.txValid
    · exact ⟨s, exec_txack_not_valid h, Surroundings.refl s⟩
    · obtain ⟨k, b, he⟩ := exec_txack_valid h
      exact ⟨_, he, by simp [Surroundings]⟩
  | reset => exact ⟨_, rfl, rfl, rfl, rfl⟩
  | dump => exact exec_received_surroundings .dump s
  | hello => exact exec_received_surroundings .hello s
  | setduty => exact exec_received_surroundings .setduty s
  | nop b => exact exec_received_surroundings (.nop b) s
  | dutyarg d => exact exec_received_surroundings (.dutyarg d) s

theorem runOps_surroundings (ops : List Instr) (s : State) :
    ∃ t, runOps ops s = .next t ∧ Surroundings s t := by
  induction ops generalizing s with
  | nil => exact ⟨s, rfl, Surroundings.refl s⟩
  | cons i is ih =>
    obtain ⟨t, he, ht⟩ := exec_surroundings i s
    obtain ⟨u, hr, hu⟩ := ih t
    exact ⟨u, (runOps_cons_next he).trans hr, ht.trans hu⟩

/-- A step goes on, keeps the parameters, and uses up one placed input and one cycle number. -/
theorem step_surroundings (s : State) : ∃ t, step s = .next t ∧ Surroundings s.sampled t :=
  runOps_surroundings s.cycleOps s.sampled

/-- Settles O41, by induction on the number of steps. -/
theorem parametersAreFixed : Obligations.ParametersAreFixed := by
  intro n
  induction n with
  | zero => exact fun s => ⟨s, reaches_zero s, rfl, rfl, rfl⟩
  | succ n ih =>
    intro s
    obtain ⟨t, hs, hp, hq, hc⟩ := step_surroundings s
    obtain ⟨u, hr, hp', hc', hq'⟩ := ih t
    refine ⟨u, reaches_succ hs hr, hp'.trans hp, ?_, ?_⟩
    · rw [hc', hc, State.sampled_cycle]
      omega
    · rw [hq', hq, State.sampled_pending, List.drop_tail]

/-! ### A cycle without a placed input -/

theorem inputs_of_unplaced {s : State} (h : s.pending = []) :
    s.inputs = Config.environment s.cycle := by
  simp [State.inputs, h]

/-- A step depends on the inputs of its cycle, the outputs that decide its events, and the state once sampled. -/
theorem step_congr {s u : State} (hi : s.inputs = u.inputs) (hs : s.sampled = u.sampled) :
    step s = step u := by
  have htx : s.txValid = u.txValid := by
    rw [← sampled_txValid s, hs, sampled_txValid]
  have hrx : s.rxReady = u.rxReady := by
    rw [← sampled_rxReady s, hs, sampled_rxReady]
  unfold step State.cycleOps
  rw [hi, hs, htx, hrx]

/-- Settles O47: both steps sample the environment's value and go on from the same state. -/
theorem unplacedCycleRunsOnTheEnvironment : Obligations.UnplacedCycleRunsOnTheEnvironment := by
  rintro s _ h rfl
  apply step_congr
  · exact inputs_of_unplaced h
  · simp [State.sampled, h]

/-! ### Results of conversions and what they can reach

Two runs that differ in the results delivered are compared through `State.withSamples`: the second run's state is the
first's with other contents in the places a result can get to. Every operation commutes with that replacement. -/

/-- The state with another last reading, forwarded byte, placed inputs and record. -/
def State.withSamples (s : State) (v f : Byte) (q : List Inputs) (l : List TraceLine) : State :=
  { s with reading := v, fwdData := f, pending := q, trace := l }

/-- The same operation, delivering the result `w` if it is a conversion. -/
def withResult (w : Byte) : Instr → Instr
  | .conv _ => .conv w
  | i => i

/-- The states differ at most in what results of conversions can reach. -/
def SameButSamples (s u : State) : Prop := ∃ v f q l, u = s.withSamples v f q l

/-- Both outcomes are next states, and these differ at most in what results of conversions can reach. -/
def AgreeButSamples (o o' : Host.Outcome State Fault Refusal) : Prop :=
  ∃ t u, o = .next t ∧ o' = .next u ∧ SameButSamples t u

section WithSamples

variable (s : State) (v f : Byte) (q : List Inputs) (l : List TraceLine)

@[simp] theorem State.withSamples_fwdValid : (s.withSamples v f q l).fwdValid = s.fwdValid := rfl
@[simp] theorem State.withSamples_mode : (s.withSamples v f q l).mode = s.mode := rfl
@[simp] theorem State.withSamples_txValid : (s.withSamples v f q l).txValid = s.txValid := rfl
@[simp] theorem State.withSamples_rxReady : (s.withSamples v f q l).rxReady = s.rxReady := rfl
@[simp] theorem State.withSamples_received (b : Byte) : (s.withSamples v f q l).received b = s.received b := rfl

theorem State.taken_withSamples : (s.withSamples v f q l).taken = s.taken.withSamples v f q l := by
  cases hv : s.fwdValid
  · cases hm : s.mode
    · rw [State.taken_waiting hv (.inl hm), State.taken_waiting (s := s.withSamples v f q l) hv (.inl hm)]
    · by_cases hi : s.idx = 1
      · rw [State.taken_dump_last hv hm hi, State.taken_dump_last (s := s.withSamples v f q l) hv hm hi]
        rfl
      · rw [State.taken_dump_more hv hm hi, State.taken_dump_more (s := s.withSamples v f q l) hv hm hi]
        rfl
    · by_cases hi : s.idx = s.params.greetLen - 1
      · rw [State.taken_hello_last hv hm hi, State.taken_hello_last (s := s.withSamples v f q l) hv hm hi]
        rfl
      · rw [State.taken_hello_more hv hm hi, State.taken_hello_more (s := s.withSamples v f q l) hv hm hi]
        rfl
    · rw [State.taken_waiting hv (.inr hm), State.taken_waiting (s := s.withSamples v f q l) hv (.inr hm)]
  · rw [State.taken_full hv, State.taken_full (s := s.withSamples v f q l) hv]
    rfl

theorem State.forward_withSamples (r r' : Byte) :
    SameButSamples (s.forward r) ((s.withSamples v f q l).forward r') := by
  unfold State.forward
  rw [State.withSamples_fwdValid]
  split
  · exact ⟨v, f, q, l, rfl⟩
  · exact ⟨v, r', q, l, rfl⟩

theorem State.notify_withSamples (r r' : Byte) :
    SameButSamples (s.notify r) ((s.withSamples v f q l).notify r') := by
  by_cases h : s.decCount = s.params.K
  · rw [State.notify_at r h, State.notify_at (s := s.withSamples v f q l) r' h]
    exact State.forward_withSamples (s.setDecCount 0 (Nat.zero_le _)) v f q l r r'
  · rw [State.notify_below r h, State.notify_below (s := s.withSamples v f q l) r' h]
    exact ⟨v, f, q, l, rfl⟩

end WithSamples

theorem SameButSamples.record {s u : State} (h : SameButSamples s u) (a b : TraceLine) :
    SameButSamples (s.record a) (u.record b) := by
  obtain ⟨v, f, q, l, rfl⟩ := h
  exact ⟨v, f, q, l ++ [b], rfl⟩

theorem SameButSamples.exec_received {s u : State} (h : SameButSamples s u) (c : Received) :
    AgreeButSamples (exec c.toInstr s) (exec c.toInstr u) := by
  obtain ⟨v, f, q, l, rfl⟩ := h
  cases c <;> refine ⟨_, _, rfl, rfl, ?_⟩ <;> rw [State.withSamples_mode] <;> split <;> exact ⟨v, f, q, _, rfl⟩

theorem SameButSamples.exec_rx {s u : State} (h : SameButSamples s u) (b : Byte) :
    AgreeButSamples (exec (.rx b) s) (exec (.rx b) u) := by
  have ⟨v, f, q, l, hu⟩ := h
  have hready : u.rxReady = s.rxReady := by rw [hu, State.withSamples_rxReady]
  have hreceived : u.received b = s.received b := by rw [hu, State.withSamples_received]
  cases hr : s.rxReady
  · exact ⟨s, u, exec_rx_not_ready b hr, exec_rx_not_ready b (hready.trans hr), h⟩
  · rw [exec_rx_ready b hr, exec_rx_ready b (hready.trans hr), hreceived]
    exact h.exec_received _

theorem SameButSamples.exec_txack {s u : State} (h : SameButSamples s u) :
    AgreeButSamples (exec .txack s) (exec .txack u) := by
  have ⟨v, f, q, l, hu⟩ := h
  have hvalid : u.txValid = s.txValid := by rw [hu, State.withSamples_txValid]
  have htaken : SameButSamples s.taken u.taken := ⟨v, f, q, l, by rw [hu, State.taken_withSamples]⟩
  cases ht : s.txValid
  · exact ⟨s, u, exec_txack_not_valid ht, exec_txack_not_valid (hvalid.trans ht), h⟩
  · obtain ⟨k, b, hs⟩ := exec_txack_valid ht
    obtain ⟨k', b', hu'⟩ := exec_txack_valid (hvalid.trans ht)
    exact ⟨_, _, hs, hu', htaken.record _ _⟩

theorem SameButSamples.exec_conv {s u : State} (h : SameButSamples s u) (r r' : Byte) :
    AgreeButSamples (exec (.conv r) s) (exec (.conv r') u) := by
  obtain ⟨v, f, q, l, rfl⟩ := h
  exact ⟨_, _, rfl, rfl, (State.notify_withSamples (s.setReading r) r' f q l r r').record _ _⟩

/-- Whatever result a conversion delivers, states that differ at most in what results can reach go on to such states. -/
theorem SameButSamples.exec_withResult {s u : State} (h : SameButSamples s u) (w : Byte) (i : Instr) :
    AgreeButSamples (exec i s) (exec (withResult w i) u) := by
  cases i with
  | tick =>
    obtain ⟨v, f, q, l, rfl⟩ := h
    exact ⟨_, _, rfl, rfl, v, f, q, _, rfl⟩
  | conv r => exact h.exec_conv r w
  | rx b => exact h.exec_rx b
  | txack => exact h.exec_txack
  | reset =>
    obtain ⟨v, f, q, l, rfl⟩ := h
    exact ⟨_, _, rfl, rfl, 0x00, 0x00, q, [], rfl⟩
  | dump => exact h.exec_received .dump
  | hello => exact h.exec_received .hello
  | setduty => exact h.exec_received .setduty
  | nop b => exact h.exec_received (.nop b)
  | dutyarg d => exact h.exec_received (.dutyarg d)

theorem SameButSamples.runOps_withResult {s u : State} (h : SameButSamples s u) (w : Byte) (ops : List Instr) :
    AgreeButSamples (runOps ops s) (runOps (ops.map (withResult w)) u) := by
  induction ops generalizing s u with
  | nil => exact ⟨s, u, rfl, rfl, h⟩
  | cons i is ih =>
    obtain ⟨t, t', hs, hu, ht⟩ := h.exec_withResult w i
    rw [List.map_cons, runOps_cons_next hs, runOps_cons_next hu]
    exact ih ht

/-- The result on `adc_data` decides no event: it is only what a conversion of the cycle delivers. -/
theorem decodeCycle_adcData (txValid rxReady : Bool) (inp : Inputs) (w : Byte) :
    decodeCycle txValid rxReady { inp with adcData := w }
      = (decodeCycle txValid rxReady inp).map (withResult w) := by
  unfold decodeCycle decodeEvents
  simp only [apply_ite (List.map (withResult w)), List.map_append, List.map_cons, List.map_nil, withResult]

/-- Settles O44: both cycles perform the same operations but for the results delivered, from states that differ in `reading`
alone once the inputs are sampled. -/
theorem samplesNeverReachThePwm : Obligations.SamplesNeverReachThePwm := by
  intro s inp rest v w hpending
  have hops : ({ s.setReading v with pending := { inp with adcData := w } :: rest } : State).cycleOps
      = s.cycleOps.map (withResult w) := by
    unfold State.cycleOps
    rw [inputs_of_pending hpending, ← decodeCycle_adcData]
    rfl
  have hsampled : SameButSamples s.sampled
      ({ s.setReading v with pending := { inp with adcData := w } :: rest } : State).sampled :=
    ⟨v, s.fwdData, rest, s.trace, rfl⟩
  obtain ⟨t, u, hs, hu, _, _, _, _, rfl⟩ := hsampled.runOps_withResult w s.cycleOps
  rw [← hops] at hu
  exact ⟨t, _, hs, hu, rfl, ⟨rfl, rfl⟩, ⟨rfl, rfl⟩, rfl, rfl, rfl⟩

end Sys2Proof.Machine
end

section
/-! SUPPORT. Proofs of the statements of spec/10_state.md: the reset values (R27), the widths of the counters (R10), the wires a
cycle reads (R26), what shows of `ovr`, `phase` and `setpoint` (R12, R17, R22), and the block's own step (R10, R44). -/

namespace Sys2Proof.Machine

open Sys2Proof Sys2Proof.Safety Sys2Proof.Frame

/-! ### Reset -/

/-- Settles O29, by evaluation of the reset state. -/
theorem resetStateIsTheTable : Obligations.ResetStateIsTheTable :=
  ⟨⟨rfl, rfl, rfl, rfl, rfl, rfl, rfl, rfl, rfl, rfl⟩, rfl, rfl, rfl, rfl⟩

theorem pwmLedger_reset (p : Params) : PwmLedger (State.resetWith p) := ⟨rfl, rfl⟩

theorem decimatorLedger_reset (p : Params) : DecimatorLedger (State.resetWith p) :=
  ⟨(Nat.zero_mod _).symm, rfl, List.nil_sublist _, fun _ => rfl, nofun⟩

theorem dispatcherLedger_reset (p : Params) : DispatcherLedger (State.resetWith p) :=
  ⟨rfl, rfl, (Nat.mul_zero _).symm, rfl⟩

/-- Settles O32, ledger by ledger: the record is empty and every register counts nothing. -/
theorem ledgersHoldAtReset : Obligations.LedgersHoldAtReset := fun p =>
  ⟨pwmLedger_reset p, decimatorLedger_reset p, dispatcherLedger_reset p⟩

/-! ### Widths -/

/-- The ranges R5 gives the two lengths that bound `idx`. -/
theorem lengths_le_127 (p : Params) : p.burstLen ≤ 127 ∧ p.greeting.length ≤ 127 := by
  have h := p.inRange
  simp only [paramsInRange, Bool.and_eq_true, decide_eq_true_eq] at h
  obtain ⟨⟨⟨-, hburst⟩, -⟩, hgreet⟩ := h
  exact ⟨hburst, hgreet⟩

theorem State.decCount_lt_width (s : State) : s.decCount < 2 ^ s.params.decWidth :=
  calc s.decCount < s.params.K + 1 := Nat.lt_succ_of_le s.decCount_le
    _ ≤ 2 ^ Nat.clog 2 (s.params.K + 1) := Nat.le_pow_clog Nat.one_lt_two _
    _ ≤ 2 ^ s.params.decWidth := Nat.pow_le_pow_right Nat.two_pos (le_max_right _ _)

theorem State.idx_lt_width (s : State) : s.idx < 2 ^ Params.idxWidth := by
  have ⟨hburst, hgreet⟩ := lengths_le_127 s.params
  have hw : 2 ^ Params.idxWidth = 128 := rfl
  rw [hw]
  cases hm : s.mode
  · rw [State.idx_of_idle hm]; omega
  · have := State.idx_of_dump hm; omega
  · have := State.idx_of_hello hm; omega
  · rw [State.idx_of_arg hm]; omega

/-- Settles O42, from the ranges the state's type carries. -/
theorem countersFitTheirWidths : Obligations.CountersFitTheirWidths := fun s =>
  ⟨s.decCount_lt_width, s.idx_lt_width, Or.rec State.idx_of_idle State.idx_of_arg, State.idx_of_dump,
    State.idx_of_hello⟩

/-! ### The events of a cycle -/

/-- The event vector read back: each event that happens is one operation, in the order of R38. -/
theorem decodeEvents_eventVector (tick conv rx tx : Bool) (r b : Byte) :
    decodeEvents (eventVector tick conv rx tx) r b
      = (if tx then [.txack] else []) ++ (if tick then [.tick] else [])
        ++ (if conv then [.conv r] else []) ++ (if rx then [.rx b] else []) := by
  cases tick <;> cases conv <;> cases rx <;> cases tx <;> rfl

theorem decodeCycle_reset (txValid rxReady : Bool) {inp : Inputs} (h : inp.rst = true) :
    decodeCycle txValid rxReady inp = [.reset] := by
  simp [decodeCycle, h]

/-- The result wire is read only by a conversion (U14). -/
theorem decodeCycle_without_conv (txValid rxReady : Bool) {inp : Inputs} (h : inp.convDone = false) (r : Byte) :
    decodeCycle txValid rxReady { inp with adcData := r } = decodeCycle txValid rxReady inp := by
  simp [decodeCycle, decodeEvents_eventVector, h]

/-- The receive data wires are read only where the byte is taken (U14). -/
theorem decodeCycle_without_rx (txValid rxReady : Bool) {inp : Inputs}
    (h : inp.rxValid = false ∨ rxReady = false) (b : Byte) :
    decodeCycle txValid rxReady { inp with rxData := b } = decodeCycle txValid rxReady inp := by
  have hrx : (inp.rxValid && rxReady) = false := by rcases h with h | h <;> simp [h]
  simp [decodeCycle, decodeEvents_eventVector, hrx]

/-- Other placed inputs for this cycle that decode to the same operations make no difference to the step. -/
theorem step_congr_of_decodeCycle {s : State} {inp inp' : Inputs} {rest : List Inputs} (hs : s.pending = inp :: rest)
    (h : decodeCycle s.txValid s.rxReady inp' = decodeCycle s.txValid s.rxReady inp) :
    step { s with pending := inp' :: rest } = step s := by
  have hops : ({ s with pending := inp' :: rest } : State).cycleOps = s.cycleOps := by
    unfold State.cycleOps
    rw [inputs_of_pending hs, ← h]
    rfl
  have hsampled : ({ s with pending := inp' :: rest } : State).sampled = s.sampled := by
    simp [State.sampled, hs]
  unfold step
  rw [hops, hsampled]

/-- Settles O38: the wires in question decide no operation of the cycle and are no operand of one. -/
theorem ignoredWiresHaveNoEffect : Obligations.IgnoredWiresHaveNoEffect := by
  intro s inp other rest hs
  refine ⟨fun h => ?_, fun h => ?_, fun h => ?_⟩ <;> apply step_congr_of_decodeCycle hs
  · exact decodeCycle_without_conv _ _ h _
  · exact decodeCycle_without_rx _ _ h _
  · rw [decodeCycle_reset _ _ h, decodeCycle_reset _ _ rfl]

/-! ### What shows of `ovr`, `phase` and `setpoint`

Two states that differ in `setpoint`, `phase`, `pwm_out` and `ovr` are run side by side. These registers reach no other one, and
neither the first three nor `ovr` reach each other, so one comparison serves both statements. -/

/-- The states agree on all but `setpoint`, `phase`, `pwm_out`, `ovr` and the levels recorded. -/
structure SameTraffic (s u : State) : Prop where
  surroundings : Surroundings s u
  sampler : Sampler s u
  slot : Slot s u
  sequencing : Sequencing s u
  received : receivedBytes u.trace = receivedBytes s.trace
  sent : sentBytes u.trace = sentBytes s.trace

/-- The states agree on `setpoint`, `phase`, `pwm_out` and the whole record. -/
def SamePwm (s u : State) : Prop := u.setpoint = s.setpoint ∧ Pwm s u ∧ u.trace = s.trace

/-- `s` and `u` go on to states with the same traffic, with the same PWM if they had it, and with the same `ovr` if they
had it. -/
def GoOnAlike (s u : State) (o o' : Host.Outcome State Fault Refusal) : Prop :=
  ∃ t v, o = .next t ∧ o' = .next v ∧ SameTraffic t v
    ∧ (SamePwm s u → SamePwm t v) ∧ (u.ovr = s.ovr → v.ovr = t.ovr)

section Comparison

variable {s u : State}

/-! What each named operation of the state keeps. -/

theorem SameTraffic.record (h : SameTraffic s u) {l m : TraceLine} (hr : receivedBytes [m] = receivedBytes [l])
    (hs : sentBytes [m] = sentBytes [l]) : SameTraffic (s.record l) (u.record m) :=
  ⟨h.surroundings, h.sampler, h.slot, h.sequencing, by simp [h.received, hr], by simp [h.sent, hs]⟩

theorem SameTraffic.setSetpoint (h : SameTraffic s u) (d : Byte) : SameTraffic (s.setSetpoint d) (u.setSetpoint d) :=
  ⟨h.surroundings, h.sampler, h.slot, h.sequencing, h.received, h.sent⟩

theorem SameTraffic.setDispatcher (h : SameTraffic s u) (m : Mode) {i j : Nat} (hij : j = i)
    (hs : dispatcherInRange s.params m i = true) (hu : dispatcherInRange u.params m j = true) :
    SameTraffic (s.setDispatcher m i hs) (u.setDispatcher m j hu) :=
  ⟨h.surroundings, h.sampler, h.slot, ⟨rfl, hij⟩, h.received, h.sent⟩

theorem SameTraffic.latch (h : SameTraffic s u) (r : Byte) :
    SameTraffic ((s.setReading r).notify r) ((u.setReading r).notify r) := by
  have ⟨⟨hp, hq, hc⟩, ⟨hr, hd⟩, ⟨hv, hf⟩, hsequencing, hrx, htx⟩ := h
  refine ⟨?_, ?_, ?_, ?_, ?_, ?_⟩
  · simp [Surroundings, hp, hq, hc]
  · simp [Sampler, State.notify_decCount, hd, hp]
  · by_cases hK : s.decCount = s.params.K <;>
      simp [Slot, State.notify_fwdValid, State.notify_fwdData, hv, hf, hd, hp, hK]
  · simpa [Sequencing] using hsequencing
  · simpa using hrx
  · simpa using htx

theorem SameTraffic.taken (h : SameTraffic s u) : SameTraffic s.taken u.taken := by
  have ⟨⟨hp, hq, hc⟩, ⟨hr, hd⟩, ⟨hv, hf⟩, ⟨hm, hi⟩, hrx, htx⟩ := h
  refine ⟨?_, ?_, ?_, ?_, ?_, ?_⟩
  · simp [Surroundings, hp, hq, hc]
  · simp [Sampler, hr, hd]
  · simp [Slot, hf]
  · unfold State.taken State.burstTaken State.greetingTaken Sequencing
    simp only [hv, hm, hi, hp]
    split_ifs <;> simp [hm, hi]
  · simpa using hrx
  · simpa using htx

theorem SamePwm.record (h : SamePwm s u) (l : TraceLine) : SamePwm (s.record l) (u.record l) := by
  obtain ⟨hset, hpwm, htrace⟩ := h
  exact ⟨hset, hpwm, congrArg (· ++ [l]) htrace⟩

theorem SamePwm.latch (h : SamePwm s u) (r : Byte) :
    SamePwm ((s.setReading r).notify r) ((u.setReading r).notify r) := by
  simpa [SamePwm, Pwm] using h

theorem SamePwm.taken (h : SamePwm s u) : SamePwm s.taken u.taken := by
  simpa [SamePwm, Pwm] using h

/-! What both states show before the edge. -/

theorem SameTraffic.txOffer (h : SameTraffic s u) : u.txOffer = s.txOffer := by
  obtain ⟨⟨hp, -, -⟩, ⟨hr, -⟩, ⟨hv, hf⟩, ⟨hm, hi⟩, -, -⟩ := h
  unfold State.txOffer
  rw [hp, hr, hv, hf, hm, hi]

theorem SameTraffic.txValid (h : SameTraffic s u) : u.txValid = s.txValid := by
  rw [State.txValid_eq_isSome, State.txValid_eq_isSome, h.txOffer]

theorem SameTraffic.rxReady (h : SameTraffic s u) : u.rxReady = s.rxReady := by
  unfold State.rxReady
  rw [h.sequencing.1]

theorem SameTraffic.received_eq (h : SameTraffic s u) (b : Byte) : u.received b = s.received b := by
  unfold State.received
  rw [h.sequencing.1]

theorem SameTraffic.inputs (h : SameTraffic s u) : u.inputs = s.inputs := by
  obtain ⟨-, hq, hc⟩ := h.surroundings
  unfold State.inputs
  rw [hq, hc]

theorem SameTraffic.cycleOps (h : SameTraffic s u) : u.cycleOps = s.cycleOps := by
  unfold State.cycleOps
  rw [h.txValid, h.rxReady, h.inputs]

theorem SameTraffic.sampled (h : SameTraffic s u) : SameTraffic s.sampled u.sampled := by
  have ⟨hp, hq, hc⟩ := h.surroundings
  exact ⟨⟨hp, congrArg List.tail hq, congrArg (· + 1) hc⟩, h.sampler, h.slot, h.sequencing, h.received, h.sent⟩

/-! The operations. -/

theorem SameTraffic.goOnAlike (h : SameTraffic s u) : GoOnAlike s u (.next s) (.next u) :=
  ⟨s, u, rfl, rfl, h, id, id⟩

/-- A byte is taken by both states or by neither. -/
theorem SameTraffic.goOnAlike_ite (h : SameTraffic s u) (m : Mode) {t v : State} (ht : SameTraffic t v)
    (hpwm : SamePwm s u → SamePwm t v) (hovr : u.ovr = s.ovr → v.ovr = t.ovr) :
    GoOnAlike s u (.next (if s.mode = m then t else s)) (.next (if u.mode = m then v else u)) := by
  rw [h.sequencing.1]
  split
  · exact ⟨t, v, rfl, rfl, ht, hpwm, hovr⟩
  · exact h.goOnAlike

theorem SameTraffic.exec_received (h : SameTraffic s u) (c : Received) :
    GoOnAlike s u (exec c.toInstr s) (exec c.toInstr u) := by
  cases c with
  | dump =>
    have hlen : u.params.burstLen = s.params.burstLen := by rw [h.surroundings.1]
    exact h.goOnAlike_ite .idle ((h.setDispatcher .dump hlen _ _).record rfl rfl) (SamePwm.record · _) id
  | hello => exact h.goOnAlike_ite .idle ((h.setDispatcher .hello rfl _ _).record rfl rfl) (SamePwm.record · _) id
  | setduty => exact h.goOnAlike_ite .idle ((h.setDispatcher .arg rfl _ _).record rfl rfl) (SamePwm.record · _) id
  | nop b => exact h.goOnAlike_ite .idle (h.record rfl rfl) (SamePwm.record · _) id
  | dutyarg d =>
    exact h.goOnAlike_ite .arg (((h.setSetpoint _).setDispatcher .idle rfl _ _).record rfl rfl)
      (fun ⟨_, hpwm, htrace⟩ => ⟨rfl, hpwm, congrArg (· ++ [TraceLine.rx d]) htrace⟩) id

theorem SameTraffic.exec_rx (h : SameTraffic s u) (b : Byte) :
    GoOnAlike s u (exec (.rx b) s) (exec (.rx b) u) := by
  cases hr : s.rxReady
  · rw [exec_rx_not_ready b hr, exec_rx_not_ready b (h.rxReady.trans hr)]
    exact h.goOnAlike
  · rw [exec_rx_ready b hr, exec_rx_ready b (h.rxReady.trans hr), h.received_eq]
    exact h.exec_received _

theorem SameTraffic.exec_tick (h : SameTraffic s u) : GoOnAlike s u (exec .tick s) (exec .tick u) := by
  refine ⟨_, _, rfl, rfl, ⟨h.surroundings, h.sampler, h.slot, h.sequencing, ?_, ?_⟩, ?_, id⟩
  · simpa using h.received
  · simpa using h.sent
  · rintro ⟨hset, ⟨hphase, hpwm⟩, htrace⟩
    simp [SamePwm, Pwm, hset, hphase, htrace]

theorem SameTraffic.exec_conv (h : SameTraffic s u) (r : Byte) :
    GoOnAlike s u (exec (.conv r) s) (exec (.conv r) u) := by
  refine ⟨_, _, rfl, rfl, (h.latch r).record rfl rfl, fun hpwm => (hpwm.latch r).record _, fun hovr => ?_⟩
  obtain ⟨⟨hp, -, -⟩, ⟨-, hd⟩, ⟨hv, -⟩, -, -, -⟩ := h
  by_cases hK : s.decCount = s.params.K <;> simp [State.notify_ovr, hovr, hv, hd, hp, hK]

theorem SameTraffic.exec_txack (h : SameTraffic s u) : GoOnAlike s u (exec .txack s) (exec .txack u) := by
  cases ho : s.txOffer with
  | none =>
    rw [exec_txack_none ho, exec_txack_none (h.txOffer.trans ho)]
    exact h.goOnAlike
  | some offer =>
    refine ⟨_, _, exec_txack_offer ho, exec_txack_offer (h.txOffer.trans ho), h.taken.record rfl rfl,
      fun hpwm => hpwm.taken.record _, fun hovr => ?_⟩
    simpa using hovr

theorem SameTraffic.exec_reset (h : SameTraffic s u) : GoOnAlike s u (exec .reset s) (exec .reset u) :=
  ⟨_, _, rfl, rfl, ⟨h.surroundings, ⟨rfl, rfl⟩, ⟨rfl, rfl⟩, ⟨rfl, rfl⟩, rfl, rfl⟩,
    fun _ => ⟨rfl, ⟨rfl, rfl⟩, rfl⟩, fun _ => rfl⟩

theorem SameTraffic.exec (h : SameTraffic s u) (i : Instr) : GoOnAlike s u (exec i s) (exec i u) := by
  cases i with
  | tick => exact h.exec_tick
  | conv r => exact h.exec_conv r
  | rx b => exact h.exec_rx b
  | txack => exact h.exec_txack
  | reset => exact h.exec_reset
  | dump => exact h.exec_received .dump
  | hello => exact h.exec_received .hello
  | setduty => exact h.exec_received .setduty
  | nop b => exact h.exec_received (.nop b)
  | dutyarg d => exact h.exec_received (.dutyarg d)

theorem SameTraffic.runOps (h : SameTraffic s u) (ops : List Instr) :
    GoOnAlike s u (runOps ops s) (runOps ops u) := by
  induction ops generalizing s u with
  | nil => exact h.goOnAlike
  | cons i is ih =>
    obtain ⟨t, v, hs, hu, ht, hpwm, hovr⟩ := h.exec i
    obtain ⟨t', v', hs', hu', ht', hpwm', hovr'⟩ := ih ht
    exact ⟨t', v', (runOps_cons_next hs).trans hs', (runOps_cons_next hu).trans hu', ht', hpwm' ∘ hpwm, hovr' ∘ hovr⟩

end Comparison

theorem sameTraffic_setOvr (s : State) (v : Bool) : SameTraffic s (s.setOvr v) :=
  ⟨⟨rfl, rfl, rfl⟩, ⟨rfl, rfl⟩, ⟨rfl, rfl⟩, ⟨rfl, rfl⟩, rfl, rfl⟩

theorem sameTraffic_setPhase_setSetpoint (s : State) (v w : Byte) :
    SameTraffic s ((s.setPhase v).setSetpoint w) :=
  ⟨⟨rfl, rfl, rfl⟩, ⟨rfl, rfl⟩, ⟨rfl, rfl⟩, ⟨rfl, rfl⟩, rfl, rfl⟩

/-- Settles O45: the states have the same traffic and `ovr`, and every operation of the cycle keeps both. -/
theorem phaseAndSetpointShowOnlyOnThePin : Obligations.PhaseAndSetpointShowOnlyOnThePin := by
  intro s v w
  have h := sameTraffic_setPhase_setSetpoint s v w
  obtain ⟨t, u, ht, hu, htraffic, -, hovr⟩ := h.sampled.runOps s.cycleOps
  rw [← h.cycleOps] at hu
  exact ⟨rfl, t, u, ht, hu, htraffic.sampler, htraffic.slot, hovr rfl, htraffic.sequencing, htraffic.received,
    htraffic.sent⟩

/-! ### What moves `ovr` -/

/-- The operation is a conversion whose byte is forwarded and finds the slot full (R75). -/
def Overruns (i : Instr) (s : State) : Prop := ∃ r, i = .conv r ∧ s.decCount = s.params.K ∧ s.fwdValid = true

theorem exec_received_ovr (c : Received) (s : State) : ∃ t, exec c.toInstr s = .next t ∧ t.ovr = s.ovr := by
  cases c <;> refine ⟨_, rfl, ?_⟩ <;> split <;> rfl

theorem exec_rx_ovr (b : Byte) (s : State) : ∃ t, exec (.rx b) s = .next t ∧ t.ovr = s.ovr := by
  cases h : s.rxReady
  · exact ⟨s, exec_rx_not_ready b h, rfl⟩
  · rw [exec_rx_ready b h]
    exact exec_received_ovr _ s

theorem exec_txack_ovr (s : State) : ∃ t, exec .txack s = .next t ∧ t.ovr = s.ovr := by
  cases h : s.txValid
  · exact ⟨s, exec_txack_not_valid h, rfl⟩
  · obtain ⟨k, b, he⟩ := exec_txack_valid h
    exact ⟨_, he, by simp⟩

theorem exec_conv_ovr (r : Byte) (s : State) :
    ∃ t, exec (.conv r) s = .next t ∧ (t.ovr = true ↔ s.ovr = true ∨ s.decCount = s.params.K ∧ s.fwdValid = true) := by
  refine ⟨_, rfl, ?_⟩
  by_cases hK : s.decCount = s.params.K <;> simp [State.notify_ovr, hK]

/-- Every operation but a conversion and `RESET` leaves `ovr` alone. -/
theorem exec_keeps_ovr {i : Instr} (hconv : ∀ r, i ≠ .conv r) (hreset : i ≠ .reset) (s : State) :
    ∃ t, exec i s = .next t ∧ t.ovr = s.ovr := by
  cases i with
  | tick => exact ⟨_, rfl, rfl⟩
  | conv r => exact absurd rfl (hconv r)
  | rx b => exact exec_rx_ovr b s
  | txack => exact exec_txack_ovr s
  | reset => exact absurd rfl hreset
  | dump => exact exec_received_ovr .dump s
  | hello => exact exec_received_ovr .hello s
  | setduty => exact exec_received_ovr .setduty s
  | nop b => exact exec_received_ovr (.nop b) s
  | dutyarg d => exact exec_received_ovr (.dutyarg d) s

/-- After an operation `ovr` is 1 exactly where it was, or a forward found the slot full, and the operation is not `RESET`. -/
theorem exec_ovr (i : Instr) (s : State) :
    ∃ t, exec i s = .next t ∧ (t.ovr = true ↔ i ≠ .reset ∧ (s.ovr = true ∨ Overruns i s)) := by
  by_cases hreset : i = .reset
  · subst hreset
    exact ⟨_, rfl, by simp⟩
  by_cases hconv : ∃ r, i = .conv r
  · obtain ⟨r, rfl⟩ := hconv
    obtain ⟨t, he, ht⟩ := exec_conv_ovr r s
    exact ⟨t, he, by simp [ht, Overruns]⟩
  · obtain ⟨t, he, ht⟩ := exec_keeps_ovr (not_exists.mp hconv) hreset s
    have hnot : ¬ Overruns i s := fun ⟨r, hi, _⟩ => hconv ⟨r, hi⟩
    exact ⟨t, he, by simp [ht, hreset, hnot]⟩

/-- Settles O8: `exec_ovr` says what moves the flag, and the comparison with a state that has another `ovr` says that nothing
reads it. -/
theorem overrunFlagIsStickyAndUnread : Obligations.OverrunFlagIsStickyAndUnread := by
  intro i s
  obtain ⟨t, he, hovr⟩ := exec_ovr i s
  refine ⟨t, he, fun hs ht => ?_, fun r hi hK hv => ?_, fun hs ht => ?_, rfl, fun v => ?_⟩
  · exact (hovr.mp ht).2.resolve_left (by simp [hs])
  · exact hovr.mpr ⟨by simp [hi], .inr ⟨r, hi, hK, hv⟩⟩
  · by_contra hreset
    simp [hovr.mpr ⟨hreset, .inl hs⟩] at ht
  · obtain ⟨t', u, he', hu, htraffic, hpwm, -⟩ := (sameTraffic_setOvr s v).exec i
    obtain rfl : t = t' := by simpa [he] using he'
    obtain ⟨hset, hpin, htrace⟩ := hpwm ⟨rfl, ⟨rfl, rfl⟩, rfl⟩
    exact ⟨u, hu, hset, hpin, htraffic.sampler, htraffic.slot, htraffic.sequencing, htraffic.surroundings, htrace⟩

/-! ### The block and what surrounds it -/

/-- The operations a cycle without `rst` is made of (R52). -/
def IsEvent : Instr → Bool
  | .tick | .conv _ | .rx _ | .txack => true
  | .reset | .dump | .hello | .setduty | .nop _ | .dutyarg _ => false

section BlockOps

variable {p : Params}

/-- The byte the block offers (R96), which depends on nothing around it. -/
def Block.txOffer (b : Block p) : Option (TxKind × Byte) := ((State.resetWith p).withBlock b).txOffer

/-- R44's `OP(s)` for an event; anything else is no event and does nothing here. -/
def Block.perform (b : Block p) : Instr → Block p
  | .tick => b.tick
  | .conv r => b.conv r
  | .rx d => b.rx d
  | .txack => b.txack
  | .reset | .dump | .hello | .setduty | .nop _ | .dutyarg _ => b

/-- What an observer records of an event. -/
def Block.lines (b : Block p) : Instr → List TraceLine
  | .tick => [.tick (comparator b.phase b.setpoint)]
  | .conv r => [.conv r]
  | .rx d => if b.mode = .idle ∨ b.mode = .arg then [.rx d] else []
  | .txack => b.txOffer.toList.map (fun o => .txack o.1 o.2)
  | .reset | .dump | .hello | .setduty | .nop _ | .dutyarg _ => []

/-- What an observer records of events performed one after another. -/
def Block.record (b : Block p) : List Instr → List TraceLine
  | [] => []
  | i :: is => b.lines i ++ (b.perform i).record is

/-- A command byte that is none of the three commands (R86). -/
theorem Block.rx_nop {b : Block p} {d : Byte} (hm : b.mode = .idle) (h1 : d ≠ 0x01) (h2 : d ≠ 0x02) (h3 : d ≠ 0x03) :
    b.rx d = b := by
  simp only [Block.rx, hm, if_neg h1, if_neg h2, if_neg h3]

end BlockOps

/-- The state whose block has come to `b`, with these lines added to the record; the surroundings stay. -/
def State.advance (s : State) (b : Block s.params) (l : List TraceLine) : State :=
  { s.withBlock b with trace := s.trace ++ l }

theorem State.advance_self (s : State) : s.advance s.block [] = s := by
  simp [State.advance]

theorem State.advance_advance (s : State) (b c : Block s.params) (l m : List TraceLine) :
    (s.advance b l).advance c m = s.advance c (l ++ m) := by
  simp [State.advance, State.withBlock]

theorem latch_eq_withBlock (s : State) (r : Byte) :
    (s.setReading r).notify r = s.withBlock (s.block.conv r) := by
  obtain ⟨p, sp, ph, rd, dc, po, fv, fd, ov, m, i, q, c, l, hd, hi⟩ := s
  by_cases hK : dc = p.K
  · cases fv <;> simp [State.notify, State.forward, Block.conv, hK] <;> rfl
  · simp [State.notify, Block.conv, hK]
    rfl

theorem taken_eq_withBlock (s : State) : s.taken = s.withBlock s.block.txack := by
  obtain ⟨p, sp, ph, rd, dc, po, fv, fd, ov, m, i, q, c, l, hd, hi⟩ := s
  cases fv with
  | true => rfl
  | false =>
    cases m with
    | idle | arg => rfl
    | dump => by_cases h : i = 1 <;> simp [State.taken, State.burstTaken, Block.txack, h] <;> rfl
    | hello => by_cases h : i = p.greetLen - 1 <;> simp [State.taken, State.greetingTaken, Block.txack, h] <;> rfl

theorem taken_of_no_offer {s : State} (h : s.txOffer = none) : s.taken = s := by
  rcases s.taken_cases with ⟨hv, -⟩ | ⟨hv, hm | hm, -⟩ | ⟨-, -, ht⟩
  · simp [State.txOffer_full hv] at h
  · simp [State.txOffer_dump hv hm] at h
  · simp [State.txOffer_hello hv hm] at h
  · exact ht

theorem exec_txack_advance (s : State) :
    exec .txack s = .next (s.advance s.block.txack (s.block.lines .txack)) := by
  have hlines : s.block.lines .txack = s.txOffer.toList.map (fun o => .txack o.1 o.2) := rfl
  rw [hlines]
  cases ho : s.txOffer with
  | none =>
    have h : s.withBlock s.block.txack = s := (taken_eq_withBlock s).symm.trans (taken_of_no_offer ho)
    rw [exec_txack_none ho]
    simp [State.advance, h]
  | some offer =>
    rw [exec_txack_offer ho, taken_eq_withBlock]
    rfl

theorem exec_conv_advance (s : State) (r : Byte) :
    exec (.conv r) s = .next (s.advance (s.block.conv r) (s.block.lines (.conv r))) :=
  congrArg (fun t : State => Host.Outcome.next (t.record (.conv r))) (latch_eq_withBlock s r)

theorem exec_rx_advance (s : State) (b : Byte) :
    exec (.rx b) s = .next (s.advance (s.block.rx b) (s.block.lines (.rx b))) := by
  obtain ⟨p, sp, ph, rd, dc, po, fv, fd, ov, m, i, q, c, l, hd, hi⟩ := s
  cases m with
  | idle =>
    rw [exec_rx_ready b rfl, received_idle b rfl]
    rcases decodeCmd_cases b with ⟨rfl, h⟩ | ⟨rfl, h⟩ | ⟨rfl, h⟩ | ⟨h1, h2, h3, h⟩
    · rfl
    · rfl
    · rfl
    · rw [h, Block.rx_nop rfl h1 h2 h3]
      rfl
  | arg =>
    rw [exec_rx_ready b rfl, received_arg b rfl]
    exact exec_dutyarg_arg b rfl
  | dump =>
    rw [exec_rx_not_ready b rfl]
    exact congrArg _ (State.advance_self _).symm
  | hello =>
    rw [exec_rx_not_ready b rfl]
    exact congrArg _ (State.advance_self _).symm

theorem exec_advance {i : Instr} (h : IsEvent i = true) (s : State) :
    exec i s = .next (s.advance (s.block.perform i) (s.block.lines i)) := by
  cases i with
  | tick => rfl
  | conv r => exact exec_conv_advance s r
  | rx b => exact exec_rx_advance s b
  | txack => exact exec_txack_advance s
  | reset | dump | hello | setduty | nop b | dutyarg d => cases h

theorem runOps_advance {ops : List Instr} (h : ∀ i ∈ ops, IsEvent i = true) (s : State) :
    runOps ops s = .next (s.advance (ops.foldl Block.perform s.block) (s.block.record ops)) := by
  induction ops generalizing s with
  | nil => exact congrArg _ s.advance_self.symm
  | cons i is ih =>
    obtain ⟨hi, his⟩ := List.forall_mem_cons.mp h
    rw [runOps_cons_next (exec_advance hi s), ih his]
    exact congrArg Host.Outcome.next (s.advance_advance _ _ _ _)

/-! The step. -/

/-- The events of a cycle without `rst`, in the order of R44's lines. -/
theorem cycleOps_of_no_reset {s : State} (h : s.inputs.rst = false) :
    s.cycleOps = (if s.txValid && s.inputs.txReady then [.txack] else []) ++ (if s.inputs.tick then [.tick] else [])
      ++ (if s.inputs.convDone then [.conv s.inputs.adcData] else [])
      ++ (if s.inputs.rxValid && s.rxReady then [.rx s.inputs.rxData] else []) := by
  unfold State.cycleOps decodeCycle
  rw [h, if_neg Bool.false_ne_true, decodeEvents_eventVector]

theorem cycleOps_isEvent {s : State} (h : s.inputs.rst = false) : ∀ i ∈ s.cycleOps, IsEvent i = true := by
  have hif : ∀ (ev : Bool) (i : Instr), IsEvent i = true → ∀ j ∈ (if ev then [i] else []), IsEvent j = true := by
    intro ev i hi
    cases ev <;> simp [hi]
  simp only [cycleOps_of_no_reset h, List.forall_mem_append]
  exact ⟨⟨⟨hif _ _ rfl, hif _ _ rfl⟩, hif _ _ rfl⟩, hif _ _ rfl⟩

/-- R44's lines are the cycle's events performed one after another. -/
theorem block_step_eq_foldl {s : State} (h : s.inputs.rst = false) :
    s.block.step s.inputs = s.cycleOps.foldl Block.perform s.block := by
  have hif : ∀ (ev : Bool) (i : Instr) (b : Block s.params),
      (if ev then [i] else []).foldl Block.perform b = if ev then b.perform i else b := by
    intro ev i b
    cases ev <;> rfl
  unfold Block.step
  rw [h, if_neg Bool.false_ne_true, cycleOps_of_no_reset h]
  simp only [List.foldl_append, hif]
  rfl

theorem step_advance {s : State} (h : s.inputs.rst = false) :
    step s = .next (s.sampled.advance (s.block.step s.inputs) (s.block.record s.cycleOps)) := by
  rw [block_step_eq_foldl h]
  exact runOps_advance (cycleOps_isEvent h) s.sampled

theorem step_reset {s : State} (h : s.inputs.rst = true) : step s = .next s.sampled.resetRegisters := by
  unfold step State.cycleOps
  rw [decodeCycle_reset _ _ h]
  rfl

theorem Block.step_reset {p : Params} (b : Block p) {inp : Inputs} (h : inp.rst = true) : b.step inp = Block.reset p := by
  simp [Block.step, h]

/-- Settles O54: without `rst` by `step_advance`, whose new registers and lines are made from the block and the inputs alone,
and with `rst` because the reset values are. -/
theorem blockIsTheTenRegisters : Obligations.BlockIsTheTenRegisters := by
  intro s
  cases h : s.inputs.rst with
  | false => exact ⟨_, step_advance h, rfl, rfl, _, step_advance (s := s.block.facing s.inputs) h, rfl⟩
  | true =>
    refine ⟨_, step_reset h, ?_, rfl, _, step_reset (s := s.block.facing s.inputs) h, rfl⟩
    rw [Block.step_reset _ h]
    rfl

end Sys2Proof.Machine
end

section
/-! SUPPORT. Proofs of the statements of spec/20_memory.md: the cycle step (R44), the bytes a cycle transfers (R34, R41),
what the order within a cycle decides (R38), and the writers of the registers (R43). -/

namespace Sys2Proof.Machine

open Sys2Proof Sys2Proof.Safety Sys2Proof.Frame

/-! ### What each event of a cycle writes -/

section BlockFrame

variable {p : Params}

/-- A conversion below `K` counts (R73). -/
theorem Block.conv_below {b : Block p} (r : Byte) (h : b.decCount ≠ p.K) :
    b.conv r = { b with
      reading := r, decCount := b.decCount + 1, decCount_le := Nat.lt_of_le_of_ne b.decCount_le h } := by
  simp [Block.conv, h]

/-- A byte taken by the transport empties a full slot (R97). -/
theorem Block.txack_full {b : Block p} (h : b.fwdValid = true) : b.txack = { b with fwdValid := false } := by
  simp [Block.txack, h]

variable (b : Block p)

/-- All that a conversion can write. -/
theorem Block.conv_writes (r : Byte) :
    b.conv r = { b with
      reading := r, decCount := (b.conv r).decCount, decCount_le := (b.conv r).decCount_le,
      fwdValid := (b.conv r).fwdValid, fwdData := (b.conv r).fwdData, ovr := (b.conv r).ovr } := by
  unfold Block.conv
  split <;> [split <;> rfl; rfl]

/-- All that a received byte can write. -/
theorem Block.rx_writes (d : Byte) :
    b.rx d = { b with
      setpoint := (b.rx d).setpoint, mode := (b.rx d).mode, idx := (b.rx d).idx, idx_ok := (b.rx d).idx_ok } := by
  unfold Block.rx
  split <;> [(split <;> [rfl; split <;> [rfl; split <;> rfl]]); rfl; rfl; rfl]

/-- All that a byte taken by the transport can write. -/
theorem Block.txack_writes :
    b.txack = { b with
      fwdValid := b.txack.fwdValid, mode := b.txack.mode, idx := b.txack.idx, idx_ok := b.txack.idx_ok } := by
  unfold Block.txack
  split <;> [rfl; split <;> [split <;> rfl; split <;> rfl; rfl; rfl]]

@[simp] theorem Block.conv_setpoint (r : Byte) : (b.conv r).setpoint = b.setpoint := by
  rw [b.conv_writes r]

@[simp] theorem Block.conv_phase (r : Byte) : (b.conv r).phase = b.phase := by
  rw [b.conv_writes r]

@[simp] theorem Block.conv_pwmOut (r : Byte) : (b.conv r).pwmOut = b.pwmOut := by
  rw [b.conv_writes r]

@[simp] theorem Block.conv_idx (r : Byte) : (b.conv r).idx = b.idx := by
  rw [b.conv_writes r]

@[simp] theorem Block.conv_reading (r : Byte) : (b.conv r).reading = r := by
  rw [b.conv_writes r]

@[simp] theorem Block.rx_phase (d : Byte) : (b.rx d).phase = b.phase := by
  rw [b.rx_writes d]

@[simp] theorem Block.rx_reading (d : Byte) : (b.rx d).reading = b.reading := by
  rw [b.rx_writes d]

@[simp] theorem Block.rx_decCount (d : Byte) : (b.rx d).decCount = b.decCount := by
  rw [b.rx_writes d]

@[simp] theorem Block.rx_pwmOut (d : Byte) : (b.rx d).pwmOut = b.pwmOut := by
  rw [b.rx_writes d]

@[simp] theorem Block.rx_fwdValid (d : Byte) : (b.rx d).fwdValid = b.fwdValid := by
  rw [b.rx_writes d]

@[simp] theorem Block.rx_fwdData (d : Byte) : (b.rx d).fwdData = b.fwdData := by
  rw [b.rx_writes d]

@[simp] theorem Block.rx_ovr (d : Byte) : (b.rx d).ovr = b.ovr := by
  rw [b.rx_writes d]

@[simp] theorem Block.txack_setpoint : b.txack.setpoint = b.setpoint := by
  rw [b.txack_writes]

@[simp] theorem Block.txack_phase : b.txack.phase = b.phase := by
  rw [b.txack_writes]

@[simp] theorem Block.txack_reading : b.txack.reading = b.reading := by
  rw [b.txack_writes]

@[simp] theorem Block.txack_decCount : b.txack.decCount = b.decCount := by
  rw [b.txack_writes]

@[simp] theorem Block.txack_pwmOut : b.txack.pwmOut = b.pwmOut := by
  rw [b.txack_writes]

@[simp] theorem Block.txack_fwdData : b.txack.fwdData = b.fwdData := by
  rw [b.txack_writes]

@[simp] theorem Block.txack_ovr : b.txack.ovr = b.ovr := by
  rw [b.txack_writes]

/-- A received byte is stored in `setpoint` only as an operand (R89). -/
theorem Block.rx_setpoint {b : Block p} (d : Byte) (h : b.mode ≠ .arg) : (b.rx d).setpoint = b.setpoint := by
  unfold Block.rx
  split
  · split
    · rfl
    split
    · rfl
    split <;> rfl
  · exact absurd ‹_› h
  · rfl
  · rfl

end BlockFrame

/-! ### What each event of a cycle shows on the ports -/

section BlockLines

variable {p : Params} (b : Block p)

@[simp] theorem Block.lines_tick : b.lines .tick = [.tick (comparator b.phase b.setpoint)] := rfl

@[simp] theorem Block.lines_conv (r : Byte) : b.lines (.conv r) = [.conv r] := rfl

theorem Block.lines_rx_ready {b : Block p} (d : Byte) (h : b.mode = .idle ∨ b.mode = .arg) :
    b.lines (.rx d) = [.rx d] := if_pos h

/-- A received byte shows on the receive port or nowhere. -/
theorem Block.lines_rx_cases (d : Byte) : b.lines (.rx d) = [.rx d] ∨ b.lines (.rx d) = [] := by
  simp only [Block.lines]
  split <;> simp

/-- A transferred byte is the offered one; where there is none, nothing shows. -/
theorem Block.lines_txack_cases :
    (∃ k c, b.txOffer = some (k, c) ∧ b.lines .txack = [.txack k c]) ∨ b.txOffer = none ∧ b.lines .txack = [] := by
  cases h : b.txOffer <;> simp [Block.lines, h]

/-- Only a `TXACK` sends. -/
theorem Block.sentBytes_lines {i : Instr} (hi : i ≠ .txack) : sentBytes (b.lines i) = [] := by
  cases i with
  | rx d => rcases b.lines_rx_cases d with h | h <;> rw [h] <;> rfl
  | txack => exact absurd rfl hi
  | tick | conv | reset | dump | hello | setduty | nop | dutyarg => rfl

theorem Block.sentBytes_lines_txack : sentBytes (b.lines .txack) = (b.txOffer.map Prod.snd).toList := by
  rcases b.lines_txack_cases with ⟨k, c, ho, hl⟩ | ⟨ho, hl⟩ <;> rw [ho, hl] <;> rfl

/-- Only an `RX` receives. -/
theorem Block.receivedBytes_lines {i : Instr} (hi : ∀ d, i ≠ .rx d) : receivedBytes (b.lines i) = [] := by
  cases i with
  | rx d => exact absurd rfl (hi d)
  | txack => rcases b.lines_txack_cases with ⟨k, c, -, h⟩ | ⟨-, h⟩ <;> rw [h] <;> rfl
  | tick | conv | reset | dump | hello | setduty | nop | dutyarg => rfl

theorem Block.record_append (is js : List Instr) :
    b.record (is ++ js) = b.record is ++ (is.foldl Block.perform b).record js := by
  induction is generalizing b with
  | nil => rfl
  | cons i is ih => simp [Block.record, ih]

theorem Block.record_ite (ev : Bool) (i : Instr) :
    b.record (if ev then [i] else []) = if ev then b.lines i else [] := by
  cases ev <;> simp [Block.record]

theorem Block.sentBytes_record {ops : List Instr} (h : .txack ∉ ops) : sentBytes (b.record ops) = [] := by
  induction ops generalizing b with
  | nil => rfl
  | cons i is ih =>
    simp only [List.mem_cons, not_or] at h
    obtain ⟨hi, his⟩ := h
    simp [Block.record, b.sentBytes_lines (Ne.symm hi), ih _ his]

theorem Block.receivedBytes_record {ops : List Instr} (h : ∀ d, .rx d ∉ ops) : receivedBytes (b.record ops) = [] := by
  induction ops generalizing b with
  | nil => rfl
  | cons i is ih =>
    have hi : ∀ d, i ≠ .rx d := fun d he => h d (he ▸ List.mem_cons_self)
    have his : ∀ d, .rx d ∉ is := fun d hd => h d (List.mem_cons_of_mem i hd)
    simp [Block.record, b.receivedBytes_lines hi, ih _ his]

/-- Until a byte is received, a waiting dispatcher waits on (R80). -/
theorem Block.foldl_perform_mode {b : Block p} {ops : List Instr} (hm : b.mode = .idle ∨ b.mode = .arg)
    (h : ∀ d, .rx d ∉ ops) : (ops.foldl Block.perform b).mode = b.mode := by
  induction ops generalizing b with
  | nil => rfl
  | cons i is ih =>
    have his : ∀ d, .rx d ∉ is := fun d hd => h d (List.mem_cons_of_mem i hd)
    have hi : (b.perform i).mode = b.mode := by
      cases i with
      | conv r => exact b.conv_mode r
      | rx d => exact absurd List.mem_cons_self (h d)
      | txack => exact Block.txack_mode hm
      | tick | reset | dump | hello | setduty | nop | dutyarg => rfl
    exact (ih (hi.symm ▸ hm) his).trans hi

end BlockLines

/-! ### The bytes a cycle transfers -/

/-- The byte a cycle sends is the one shown before its edge, whatever else happens at it (R37, R38 (b)). -/
theorem step_sentBytes {s t : State} (h : s.inputs.rst = false) (ht : step s = .next t) :
    sentBytes t.trace = sentBytes s.trace
      ++ if s.outputs.txValid = true ∧ s.inputs.txReady = true then s.outputs.txData.toList else [] := by
  obtain rfl : s.sampled.advance _ _ = t := Host.Outcome.next.inj ((step_advance h).symm.trans ht)
  refine (sentBytes_append _ _).trans (congrArg _ ?_)
  have hrest : Instr.txack ∉ (if s.inputs.tick then [.tick] else [])
      ++ ((if s.inputs.convDone then [.conv s.inputs.adcData] else [])
        ++ if s.inputs.rxValid && s.rxReady then [.rx s.inputs.rxData] else []) := by simp
  rw [cycleOps_of_no_reset h, List.append_assoc, List.append_assoc, Block.record_append, sentBytes_append,
    Block.sentBytes_record _ hrest, List.append_nil, Block.record_ite, apply_ite sentBytes]
  exact if_congr Bool.and_eq_true_iff s.block.sentBytes_lines_txack rfl

/-- The byte a cycle takes is the one on `rx_data`, where it was ready for it before its edge (R41). -/
theorem step_receivedBytes {s t : State} (h : s.inputs.rst = false) (ht : step s = .next t) :
    receivedBytes t.trace = receivedBytes s.trace
      ++ if s.outputs.rxReady = true ∧ s.inputs.rxValid = true then [s.inputs.rxData] else [] := by
  obtain rfl : s.sampled.advance _ _ = t := Host.Outcome.next.inj ((step_advance h).symm.trans ht)
  refine (receivedBytes_append _ _).trans (congrArg _ ?_)
  have hbefore : ∀ d, Instr.rx d ∉ (if s.txValid && s.inputs.txReady then [.txack] else [])
      ++ (if s.inputs.tick then [.tick] else [])
      ++ (if s.inputs.convDone then [.conv s.inputs.adcData] else []) := by simp
  rw [cycleOps_of_no_reset h, Block.record_append, receivedBytes_append, Block.receivedBytes_record _ hbefore,
    List.nil_append, Block.record_ite, apply_ite receivedBytes]
  refine ite_congr (propext (Bool.and_eq_true_iff.trans and_comm)) (fun hrx => ?_) fun _ => rfl
  have hm : s.block.mode = .idle ∨ s.block.mode = .arg := (rxReady_iff s).mp hrx.1
  rw [Block.lines_rx_ready _ ((Block.foldl_perform_mode hm hbefore).symm ▸ hm)]
  rfl

/-- Settles O37: each stream gains what its handshake transfers, and the shown byte is one byte. -/
theorem eachHandshakeTransfersOneByte : Obligations.EachHandshakeTransfersOneByte := by
  intro s h
  refine ⟨_, step_advance h, step_sentBytes h (step_advance h), step_receivedBytes h (step_advance h), fun hv => ?_⟩
  have hs : s.txOffer.isSome := (State.txValid_eq_isSome s).symm.trans hv
  obtain ⟨o, ho⟩ := Option.isSome_iff_exists.mp hs
  simp [State.outputs, ho]

/-! ### Three outcomes at one edge -/

/-- The edge of a `TICK` compares with the setpoint before it, whatever byte is received there (R38 (a), R63). -/
theorem Block.step_pwmOut {p : Params} (b : Block p) {inp : Inputs} (h : inp.rst = false) (ht : inp.tick = true) :
    (b.step inp).pwmOut = comparator b.phase b.setpoint := by
  simp [Block.step, h, ht, apply_ite Block.pwmOut, apply_ite Block.phase, apply_ite Block.setpoint, Block.tick]

/-- A forward at the edge of the `TXACK` that empties the slot fills it again (R38 (c), R75). -/
theorem Block.step_refills {p : Params} {b : Block p} {inp : Inputs} (h : inp.rst = false) (hv : b.fwdValid = true)
    (htx : inp.txReady = true) (hc : inp.convDone = true) (hK : b.decCount = p.K) :
    (b.step inp).fwdValid = true ∧ (b.step inp).fwdData = inp.adcData ∧ (b.step inp).ovr = b.ovr := by
  cases htick : inp.tick <;>
    simp [Block.step, h, htick, htx, hc, hv, Block.txack_full hv, Block.tick, Block.conv, hK, apply_ite Block.fwdValid,
      apply_ite Block.fwdData, apply_ite Block.ovr]

/-- Settles O34: the comparison, the byte sent and the forward each read what stood before the edge. -/
theorem sameEdgeOutcomes : Obligations.SameEdgeOutcomes := by
  intro s h
  have hsent := step_sentBytes h (step_advance h)
  refine ⟨_, step_advance h, fun htick => ?_, fun hm hv htx => ?_, fun hv htx hc hK => ?_⟩
  · exact s.block.step_pwmOut h htick
  · simpa [State.outputs, State.txValid_eq_isSome, State.txOffer_dump hv hm, htx] using hsent
  · obtain ⟨hfull, hdata, hovr⟩ := Block.step_refills (b := s.block) h hv htx hc hK
    refine ⟨hfull, hdata, hovr, ?_⟩
    simpa [State.outputs, State.txValid_eq_isSome, State.txOffer_full hv, htx] using hsent

/-! ### Events that commute -/

/-- Nothing on the ports depends on the order of these two observations, for they are on different ports. -/
def PortsApart (l m : List TraceLine) : Prop :=
  pwmLevels (l ++ m) = pwmLevels (m ++ l) ∧ conversions (l ++ m) = conversions (m ++ l)
    ∧ receivedBytes (l ++ m) = receivedBytes (m ++ l) ∧ sentBytes (l ++ m) = sentBytes (m ++ l)

theorem Block.portsApart_txack {p : Params} (b : Block p) {l : List TraceLine} (h : sentBytes l = []) :
    PortsApart (b.lines .txack) l := by
  rcases b.lines_txack_cases with ⟨k, c, -, hl⟩ | ⟨-, hl⟩ <;> simp [PortsApart, hl, h]

theorem Block.portsApart_rx {p : Params} (b : Block p) (d : Byte) {l : List TraceLine} (h : receivedBytes l = []) :
    PortsApart l (b.lines (.rx d)) := by
  rcases b.lines_rx_cases d with hl | hl <;> simp [PortsApart, hl, h]

theorem runOps_pair {i j : Instr} (hi : IsEvent i = true) (hj : IsEvent j = true) (s : State) :
    runOps [i, j] s = .next (s.advance ((s.block.perform i).perform j)
      (s.block.lines i ++ (s.block.perform i).lines j)) := by
  rw [runOps_advance (by simp [hi, hj]) s]
  simp [Block.record]

/-- Events that write the same registers in either order agree on the registers. -/
theorem agreeOnRegisters_of_comm {i j : Instr} {s : State} (hi : IsEvent i = true) (hj : IsEvent j = true)
    (hcomm : (s.block.perform i).perform j = (s.block.perform j).perform i) :
    AgreeOnRegisters (runOps [i, j] s) (runOps [j, i] s) := by
  rw [runOps_pair hi hj, runOps_pair hj hi, hcomm]
  exact ⟨_, _, rfl, rfl, rfl, ⟨rfl, rfl⟩, ⟨rfl, rfl⟩, ⟨rfl, rfl⟩, rfl, rfl, rfl⟩

/-- If moreover each shows the same in either order, on a port of its own, they agree on the ports. -/
theorem agreeOnRegistersAndPorts_of_comm {i j : Instr} {s : State} (hi : IsEvent i = true) (hj : IsEvent j = true)
    (hcomm : (s.block.perform i).perform j = (s.block.perform j).perform i)
    (hlj : (s.block.perform i).lines j = s.block.lines j) (hli : (s.block.perform j).lines i = s.block.lines i)
    (hapart : PortsApart (s.block.lines i) (s.block.lines j)) :
    AgreeOnRegistersAndPorts (runOps [i, j] s) (runOps [j, i] s) := by
  rw [runOps_pair hi hj, runOps_pair hj hi, hcomm, hlj, hli]
  obtain ⟨hpwm, hconv, hrx, htx⟩ := hapart
  refine ⟨_, _, rfl, rfl, ⟨rfl, ⟨rfl, rfl⟩, ⟨rfl, rfl⟩, ⟨rfl, rfl⟩, rfl, rfl, rfl⟩, ?_, ?_, ?_, ?_⟩
  · simpa [State.advance] using hpwm
  · simpa [State.advance] using hconv
  · simpa [State.advance] using hrx
  · simpa [State.advance] using htx

section BlockCommute

variable {p : Params} (b : Block p)

/-- A conversion neither reads nor writes the PWM's registers and the dispatcher's (R43). -/
theorem Block.conv_elsewhere (r sp ph : Byte) (pw : Bool) (m : Mode) (i : Nat) (hi : dispatcherInRange p m i = true) :
    ({ b with setpoint := sp, phase := ph, pwmOut := pw, mode := m, idx := i, idx_ok := hi } : Block p).conv r
      = { b.conv r with setpoint := sp, phase := ph, pwmOut := pw, mode := m, idx := i, idx_ok := hi } := by
  by_cases hK : b.decCount = p.K
  · cases hv : b.fwdValid <;> simp [Block.conv, hK, hv]
  · simp [Block.conv, hK]

/-- A received byte neither reads nor writes any register but `setpoint`, `mode` and `idx` (R43). -/
theorem Block.rx_elsewhere (d ph rd fd : Byte) (pw v o : Bool) (n : Nat) (hn : n ≤ p.K) :
    ({ b with phase := ph, reading := rd, decCount := n, decCount_le := hn, pwmOut := pw,
              fwdValid := v, fwdData := fd, ovr := o } : Block p).rx d
      = { b.rx d with phase := ph, reading := rd, decCount := n, decCount_le := hn, pwmOut := pw,
                      fwdValid := v, fwdData := fd, ovr := o } := by
  obtain ⟨_, _, _, _, _, _, _, _, m, i, _, _⟩ := b
  cases m with
  | idle =>
    simp only [Block.rx]
    split
    · rfl
    split
    · rfl
    split <;> rfl
  | arg | dump | hello => rfl

/-- A byte taken by the transport neither reads nor writes any register but `fwd_valid`, `mode` and `idx` (R43). -/
theorem Block.txack_elsewhere (sp ph rd fd : Byte) (pw o : Bool) (n : Nat) (hn : n ≤ p.K) :
    ({ b with setpoint := sp, phase := ph, reading := rd, decCount := n, decCount_le := hn, pwmOut := pw,
              fwdData := fd, ovr := o } : Block p).txack
      = { b.txack with setpoint := sp, phase := ph, reading := rd, decCount := n, decCount_le := hn, pwmOut := pw,
                       fwdData := fd, ovr := o } := by
  obtain ⟨_, _, _, _, _, v, _, _, m, i, _, _⟩ := b
  cases v with
  | true => rfl
  | false =>
    cases m with
    | idle | arg => rfl
    | dump => by_cases h : i = 1 <;> simp [Block.txack, h]
    | hello => by_cases h : i = p.greetLen - 1 <;> simp [Block.txack, h]

theorem Block.txack_tick_comm : b.txack.tick = b.tick.txack := by
  have h : b.tick.txack = _ := b.txack_elsewhere ..
  rw [h]
  simp [Block.tick]

theorem Block.tick_conv_comm (r : Byte) : b.tick.conv r = (b.conv r).tick := by
  have h : b.tick.conv r = _ := b.conv_elsewhere ..
  rw [h]
  simp [Block.tick]

theorem Block.tick_rx_comm {b : Block p} (d : Byte) (hm : b.mode ≠ .arg) : b.tick.rx d = (b.rx d).tick := by
  have h : b.tick.rx d = _ := b.rx_elsewhere ..
  rw [h]
  simp [Block.tick, Block.rx_setpoint d hm]

theorem Block.conv_rx_comm (r d : Byte) : (b.conv r).rx d = (b.rx d).conv r := by
  have hrx : (b.conv r).rx d = _ := (congrArg (Block.rx · d) (b.conv_writes r)).trans (b.rx_elsewhere ..)
  have hconv : (b.rx d).conv r = _ := (congrArg (Block.conv · r) (b.rx_writes d)).trans (b.conv_elsewhere ..)
  rw [hrx, hconv]
  simp

theorem Block.txack_conv_comm {b : Block p} (r : Byte) (hK : b.decCount ≠ p.K) :
    b.txack.conv r = (b.conv r).txack := by
  have h : (b.conv r).txack = _ := (congrArg Block.txack (Block.conv_below r hK)).trans (b.txack_elsewhere ..)
  rw [h, Block.conv_below r (by simpa using hK)]
  simp

/-- A received byte does not touch the slot, nor the transport the dispatcher while the slot is full. -/
theorem Block.txack_rx_comm {b : Block p} (d : Byte) (hv : b.fwdValid = true) : b.txack.rx d = (b.rx d).txack := by
  have h : b.txack.rx d = _ := (congrArg (Block.rx · d) (Block.txack_full hv)).trans (b.rx_elsewhere ..)
  rw [h, Block.txack_full (by simpa using hv)]
  simp

/-! What an event leaves of what another shows. -/

theorem Block.lines_txack_of_offer {b c : Block p} (h : c.txOffer = b.txOffer) : c.lines .txack = b.lines .txack := by
  simp only [Block.lines, h]

theorem Block.lines_rx_of_mode {b c : Block p} (d : Byte) (h : c.mode = b.mode) : c.lines (.rx d) = b.lines (.rx d) := by
  simp only [Block.lines, h]

theorem Block.txOffer_full {b : Block p} (hv : b.fwdValid = true) : b.txOffer = some (.forwarded, b.fwdData) :=
  State.txOffer_full hv

/-- A conversion that does not forward leaves every offer alone but a burst byte, which is the last result (R87). -/
theorem Block.txOffer_conv {b : Block p} (r : Byte) (hK : b.decCount ≠ p.K)
    (h : b.fwdValid = true ∨ b.mode ≠ .dump) : (b.conv r).txOffer = b.txOffer := by
  rw [Block.conv_below r hK]
  obtain ⟨_, _, _, _, _, v, _, _, m, _, _, _⟩ := b
  cases v with
  | true => rfl
  | false =>
    cases m with
    | idle | hello | arg => rfl
    | dump => simp at h

theorem Block.txOffer_rx {b : Block p} (d : Byte) (hv : b.fwdValid = true) : (b.rx d).txOffer = b.txOffer := by
  rw [Block.txOffer_full hv, Block.txOffer_full (by simpa using hv), Block.rx_fwdData]

end BlockCommute

/-- While a byte can be received the dispatcher offers none: what is offered is in the slot (R90). -/
theorem fwdValid_of_rxReady {s : State} (hr : s.rxReady = true) (hv : s.txValid = true) : s.fwdValid = true := by
  by_contra hf
  have hnone := State.txOffer_none (Bool.not_eq_true _ ▸ hf) ((rxReady_iff s).mp hr)
  simp [State.txValid_eq_isSome, hnone] at hv

/-- Settles O35, pair by pair: the registers by the commutation of the block's operations, and the ports because neither
event changes what the other shows. -/
theorem otherEventsCommute : Obligations.OtherEventsCommute := by
  intro s r b
  refine ⟨?_, ?_, fun hm => ?_, ?_, fun hK => ?_, fun hK hkeep => ?_, fun hr hv => ?_⟩
  · refine agreeOnRegistersAndPorts_of_comm rfl rfl s.block.txack_tick_comm ?_ rfl (s.block.portsApart_txack rfl)
    simp [Block.perform]
  · refine agreeOnRegistersAndPorts_of_comm rfl rfl (s.block.tick_conv_comm r) rfl ?_ (by simp [PortsApart])
    simp [Block.perform]
  · refine agreeOnRegistersAndPorts_of_comm rfl rfl (Block.tick_rx_comm b hm) rfl ?_ (s.block.portsApart_rx b rfl)
    simp [Block.perform, Block.rx_setpoint (b := s.block) b hm]
  · exact agreeOnRegistersAndPorts_of_comm rfl rfl (s.block.conv_rx_comm r b)
      (Block.lines_rx_of_mode b (s.block.conv_mode r)) rfl (s.block.portsApart_rx b rfl)
  · exact agreeOnRegisters_of_comm rfl rfl (Block.txack_conv_comm r hK)
  · exact agreeOnRegistersAndPorts_of_comm rfl rfl (Block.txack_conv_comm r hK) rfl
      (Block.lines_txack_of_offer (Block.txOffer_conv r hK hkeep)) (s.block.portsApart_txack rfl)
  · have hfull : s.block.fwdValid = true := fwdValid_of_rxReady hr hv
    exact agreeOnRegistersAndPorts_of_comm rfl rfl (Block.txack_rx_comm b hfull)
      (Block.lines_rx_of_mode b (Block.txack_mode ((rxReady_iff s).mp hr)))
      (Block.lines_txack_of_offer (Block.txOffer_rx b hfull))
      (s.block.portsApart_txack (s.block.sentBytes_lines nofun))

/-! ### The cycle function -/

/-- Every operation goes on, so running one more after a run is `perform`'s line (R44). -/
theorem runOps_append_ite (ops : List Instr) (ev : Bool) (i : Instr) (s : State) :
    runOps (ops ++ if ev then [i] else []) s = perform ev i (runOps ops s) := by
  obtain ⟨t, ht, -⟩ := runOps_surroundings ops s
  obtain ⟨u, hu, -⟩ := exec_surroundings i t
  rw [runOps_append_next ht, ht]
  cases ev with
  | false => rfl
  | true => simp [perform, runOps, hu]

theorem step_eq_perform {s : State} (h : s.inputs.rst = false) :
    step s =
      perform (s.inputs.rxValid && s.rxReady) (.rx s.inputs.rxData)
        (perform s.inputs.convDone (.conv s.inputs.adcData)
          (perform s.inputs.tick .tick
            (perform (s.txValid && s.inputs.txReady) .txack (.next s.sampled)))) := by
  unfold step
  rw [cycleOps_of_no_reset h, runOps_append_ite, runOps_append_ite, runOps_append_ite, ← List.nil_append (ite _ _ _),
    runOps_append_ite, runOps_nil]

theorem registers_sampled (s : State) : Registers s s.sampled :=
  ⟨rfl, ⟨rfl, rfl⟩, ⟨rfl, rfl⟩, ⟨rfl, rfl⟩, rfl, rfl, rfl⟩

/-- Settles O33: the outputs by their definitions, the step by `step_eq_perform`. -/
theorem stepIsTheCycleFunction : Obligations.StepIsTheCycleFunction := by
  intro s
  refine ⟨rxReady_iff s, ?_, ?_, ?_, rfl, rfl, step_reset, step_eq_perform, fwdValid_of_rxReady,
    fun h htick hconv hrx htx => ⟨?_, registers_sampled s, rfl⟩⟩
  · simp [State.outputs, State.txValid, or_assoc]
  · rw [← Option.isSome_iff_exists]
    simp [State.outputs, State.txValid_eq_isSome]
  · cases hv : s.fwdValid <;> cases hm : s.mode <;> simp [State.outputs, State.txOffer, greetingByte, hv, hm]
  · have hrx' : (s.inputs.rxValid && s.rxReady) = false := Bool.and_eq_false_iff.mpr hrx
    have htx' : (s.txValid && s.inputs.txReady) = false := Bool.and_eq_false_iff.mpr htx.symm
    rw [step_eq_perform h, hrx', htx', htick, hconv]
    rfl

/-! ### One operation on the wires -/

/-- A cycle of one operation is that operation's meaning. -/
theorem step_of_cycleOps {s : State} {i : Instr} (h : s.cycleOps = [i]) : step s = exec i s.sampled := by
  unfold step
  rw [h]
  obtain ⟨t, ht, -⟩ := exec_surroundings i s.sampled
  rw [runOps_cons_next ht, ht, runOps_nil]

/-- A byte on the receive wires alone, where it can be taken, is the operation it is read as in the present mode (R49). -/
theorem step_of_received {s : State} {b : Byte} (hin : s.inputs = { Inputs.idle with rxValid := true, rxData := b })
    (hr : s.rxReady = true) : step s = exec (s.received b).toInstr s.sampled := by
  have hops : s.cycleOps = [.rx b] := by
    rw [cycleOps_of_no_reset (by rw [hin]; rfl), hin]
    simp [Inputs.idle, hr]
  rw [step_of_cycleOps hops]
  exact exec_rx_ready b hr

theorem step_of_command {s : State} {b : Byte} (hin : s.inputs = { Inputs.idle with rxValid := true, rxData := b })
    (hm : s.mode = .idle) : step s = exec (decodeCmd b).toInstr s.sampled := by
  rw [step_of_received hin ((rxReady_iff s).mpr (.inl hm)), received_idle b hm]

theorem decodeCmd_nop {b : Byte} (h : WellFormed (.nop b) = true) : decodeCmd b = .nop b := by
  simp only [WellFormed, Bool.and_eq_true, bne_iff_ne] at h
  obtain ⟨⟨h1, h2⟩, h3⟩ := h
  exact decodeCmd_other h1 h2 h3

/-- The wires of an enabled event select it alone (R52). -/
theorem cycleOps_of_event {i : Instr} {s : State} (hev : IsEvent i = true) (hen : Enabled i s)
    (hin : s.inputs = (encode i).wires) : s.cycleOps = [i] := by
  cases i with
  | tick | conv r =>
    rw [cycleOps_of_no_reset (by rw [hin]; rfl), hin]
    simp [encode, Encoded.wires, Inputs.idle]
  | rx b =>
    have hr : s.rxReady = true := hen
    rw [cycleOps_of_no_reset (by rw [hin]; rfl), hin]
    simp [encode, Encoded.wires, Inputs.idle, hr]
  | txack =>
    have hv : s.txValid = true := hen
    rw [cycleOps_of_no_reset (by rw [hin]; rfl), hin]
    simp [encode, Encoded.wires, Inputs.idle, hv]
  | reset | dump | hello | setduty | nop | dutyarg => cases hev

/-- The wires of an enabled operation bring about that operation. -/
theorem step_of_wires {i : Instr} {s : State} (hwf : WellFormed i = true) (hen : Enabled i s)
    (hin : s.inputs = (encode i).wires) : step s = exec i s.sampled := by
  cases i with
  | tick | conv | rx | txack => exact step_of_cycleOps (cycleOps_of_event rfl hen hin)
  | reset => exact step_reset (by rw [hin]; rfl)
  | dump => exact step_of_command hin hen
  | hello => exact step_of_command hin hen
  | setduty => exact step_of_command hin hen
  | nop b =>
    rw [step_of_command (b := b) hin hen, decodeCmd_nop hwf]
    rfl
  | dutyarg d =>
    rw [step_of_received (b := d) hin ((rxReady_iff s).mpr (.inr hen)), received_arg d hen]
    rfl

/-- Settles O46: the placed wires are this cycle's inputs, and they bring about the operation. -/
theorem stepRunsTheDecodedOperation : Obligations.StepRunsTheDecodedOperation := by
  intro i s rest hwf hen hs
  refine ⟨step_of_wires hwf hen (inputs_of_pending hs), ?_, rfl, registers_sampled s, rfl, rfl⟩
  rw [State.sampled_pending, hs, List.tail_cons]

/-! ### The writers of the registers -/

/-- The operations that take a received byte. -/
def Receives (i : Instr) : Prop :=
  (∃ b, i = .rx b ∨ i = .nop b ∨ i = .dutyarg b) ∨ i = .dump ∨ i = .hello ∨ i = .setduty

/-- R43's table, for an operation that takes `s` to `t`. -/
def WrittenByWriters (i : Instr) (s t : State) : Prop :=
  (t.setpoint ≠ s.setpoint → s.mode = .arg ∧ ∃ d, i = .dutyarg d ∨ i = .rx d)
    ∧ (¬ Pwm s t → i = .tick)
    ∧ ((¬ Sampler s t ∨ t.fwdData ≠ s.fwdData ∨ t.ovr ≠ s.ovr) → ∃ r, i = .conv r)
    ∧ (s.fwdValid = false → t.fwdValid = true → ∃ r, i = .conv r)
    ∧ (s.fwdValid = true → t.fwdValid = false → i = .txack)
    ∧ (¬ Sequencing s t → (i = .txack ∧ s.fwdValid = false) ∨ Receives i)
    ∧ Surroundings s t

theorem writtenByWriters_self (i : Instr) (s : State) : WrittenByWriters i s s := by
  simp +contextual [WrittenByWriters, Pwm, Sampler, Sequencing, Surroundings]

theorem writtenByWriters_tick (s : State) : ∃ t, exec .tick s = .next t ∧ WrittenByWriters .tick s t :=
  ⟨_, rfl, by simp [WrittenByWriters, Sampler, Sequencing, Surroundings]⟩

theorem writtenByWriters_conv (r : Byte) (s : State) :
    ∃ t, exec (.conv r) s = .next t ∧ WrittenByWriters (.conv r) s t := by
  refine ⟨_, rfl, ?_⟩
  simp +contextual [WrittenByWriters, Pwm, Sequencing, Surroundings, State.notify_fwdValid]

theorem writtenByWriters_txack (s : State) : ∃ t, exec .txack s = .next t ∧ WrittenByWriters .txack s t := by
  cases h : s.txValid with
  | false => exact ⟨s, exec_txack_not_valid h, writtenByWriters_self .txack s⟩
  | true =>
    obtain ⟨k, b, he⟩ := exec_txack_valid h
    refine ⟨_, he, ?_⟩
    cases hv : s.fwdValid with
    | false => simp [WrittenByWriters, Pwm, Sampler, Surroundings, hv]
    | true => simp [WrittenByWriters, Pwm, Sampler, Sequencing, Surroundings, hv, State.taken_full hv]

/-- What a received byte is read as writes `setpoint`, `mode` and `idx` only, and `setpoint` only as an operand. -/
theorem exec_received_writes (c : Received) (s : State) :
    ∃ t, exec c.toInstr s = .next t ∧ OutsideDispatcher s t
      ∧ (t.setpoint ≠ s.setpoint → s.mode = .arg ∧ ∃ d, c = .dutyarg d) := by
  cases c with
  | dump | hello | setduty | nop =>
    refine ⟨_, rfl, ?_⟩
    split <;> simp [OutsideDispatcher, Surroundings, Pwm, Sampler, Slot]
  | dutyarg d =>
    refine ⟨_, rfl, ?_⟩
    split <;> simp [OutsideDispatcher, Surroundings, Pwm, Sampler, Slot, *]

theorem writtenByWriters_of_receives {i : Instr} {s t : State} (hi : Receives i) (h : OutsideDispatcher s t)
    (hset : t.setpoint ≠ s.setpoint → s.mode = .arg ∧ ∃ d, i = .dutyarg d ∨ i = .rx d) :
    WrittenByWriters i s t := by
  obtain ⟨hsur, hpwm, hsampler, ⟨hvalid, hdata⟩, hovr⟩ := h
  refine ⟨hset, absurd hpwm, ?_, ?_, ?_, fun _ => .inr hi, hsur⟩
  · simp [hsampler, hdata, hovr]
  · simp +contextual [hvalid]
  · simp +contextual [hvalid]

theorem writtenByWriters_received (c : Received) (s : State) :
    ∃ t, exec c.toInstr s = .next t ∧ WrittenByWriters c.toInstr s t := by
  obtain ⟨t, he, hout, hset⟩ := exec_received_writes c s
  refine ⟨t, he, writtenByWriters_of_receives ?_ hout fun hne => ?_⟩
  · cases c <;> simp [Receives, Received.toInstr]
  · obtain ⟨hm, d, rfl⟩ := hset hne
    exact ⟨hm, d, .inl rfl⟩

theorem writtenByWriters_rx (b : Byte) (s : State) :
    ∃ t, exec (.rx b) s = .next t ∧ WrittenByWriters (.rx b) s t := by
  cases h : s.rxReady with
  | false => exact ⟨s, exec_rx_not_ready b h, writtenByWriters_self (.rx b) s⟩
  | true =>
    obtain ⟨t, he, hout, hset⟩ := exec_received_writes (s.received b) s
    exact ⟨t, (exec_rx_ready b h).trans he,
      writtenByWriters_of_receives (.inl ⟨b, .inl rfl⟩) hout fun hne => ⟨(hset hne).1, b, .inr rfl⟩⟩

/-- Settles O39, operation by operation. -/
theorem eachRegisterHasItsWriter : Obligations.EachRegisterHasItsWriter := by
  intro i s hreset
  cases i with
  | tick => exact writtenByWriters_tick s
  | conv r => exact writtenByWriters_conv r s
  | rx b => exact writtenByWriters_rx b s
  | txack => exact writtenByWriters_txack s
  | reset => exact absurd rfl hreset
  | dump => exact writtenByWriters_received .dump s
  | hello => exact writtenByWriters_received .hello s
  | setduty => exact writtenByWriters_received .setduty s
  | nop b => exact writtenByWriters_received (.nop b) s
  | dutyarg d => exact writtenByWriters_received (.dutyarg d) s

end Sys2Proof.Machine
end

section
/-! SUPPORT. Proofs of the statements of spec/30_encoding.md: the bits of an operation and what is read from them (R45 to R52),
the operand of `SETDUTY` (R48, R49), and the dispatcher's ledger (R49, R87 to R89). -/

namespace Sys2Proof

/-! ### The formats of a received byte (R47, R48) -/

/-- A byte fits the formats that are a byte wide: nothing received is illegal (R50). -/
theorem decode_cmd (b x : Byte) : decode ⟨.cmd, b, x⟩ = .ok (decodeCmd b).toInstr :=
  if_neg (Nat.not_le.mpr b.isLt)

theorem decode_arg (b x : Byte) : decode ⟨.arg, b, x⟩ = .ok (.dutyarg b) :=
  if_neg (Nat.not_le.mpr b.isLt)

theorem wellFormed_decodeCmd (b : Byte) : WellFormed (decodeCmd b).toInstr = true := by
  rcases decodeCmd_cases b with ⟨-, h⟩ | ⟨-, h⟩ | ⟨-, h⟩ | ⟨h1, h2, h3, h⟩ <;> rw [h]
  · rfl
  · rfl
  · rfl
  · simp only [Received.toInstr, WellFormed, Bool.and_eq_true, bne_iff_ne]
    exact ⟨⟨h1, h2⟩, h3⟩

theorem encode_decodeCmd (b : Byte) : encode (decodeCmd b).toInstr = ⟨.cmd, b, 0⟩ := by
  rcases decodeCmd_cases b with ⟨rfl, h⟩ | ⟨rfl, h⟩ | ⟨rfl, h⟩ | ⟨-, -, -, h⟩ <;> rw [h] <;> rfl

/-- The operation a command byte is read as samples no data wire. -/
theorem decodeCmd_ne_conv_rx (b c : Byte) : (decodeCmd b).toInstr ≠ .conv c ∧ (decodeCmd b).toInstr ≠ .rx c := by
  cases decodeCmd b <;> exact ⟨nofun, nofun⟩

/-! ### The event vector (R52) -/

theorem eventVector_bits (tick conv rx tx : Bool) :
    (eventVector tick conv rx tx).getLsbD 0 = tick ∧ (eventVector tick conv rx tx).getLsbD 1 = conv
      ∧ (eventVector tick conv rx tx).getLsbD 2 = rx ∧ (eventVector tick conv rx tx).getLsbD 3 = tx := by
  cases tick <;> cases conv <;> cases rx <;> cases tx <;> decide

/-- Every event vector is made of its four bits. -/
theorem eventVector_of_bits : ∀ ev : BitVec 4,
    eventVector (ev.getLsbD 0) (ev.getLsbD 1) (ev.getLsbD 2) (ev.getLsbD 3) = ev := by
  decide

/-- The four vectors that hold one event are that operation; the others are none (assumption 13). -/
theorem oneOperation_decodeEvents (ev : BitVec 4) (r b : Byte) :
    oneOperation (decodeEvents ev r b)
      = if ev = 0x1 then .ok .tick else if ev = 0x2 then .ok (.conv r)
        else if ev = 0x4 then .ok (.rx b) else if ev = 0x8 then .ok .txack
        else if ev = 0x0 then .error .noOperation else .error .severalOperations := by
  rw [← eventVector_of_bits ev, Machine.decodeEvents_eventVector]
  generalize ev.getLsbD 0 = tick, ev.getLsbD 1 = conv, ev.getLsbD 2 = rx, ev.getLsbD 3 = tx
  cases tick <;> cases conv <;> cases rx <;> cases tx <;> rfl

theorem decodeEvents_one {ev : BitVec 4} {r b : Byte} {i : Instr}
    (h : oneOperation (decodeEvents ev r b) = .ok i) :
    (ev = 0x1 ∧ i = .tick) ∨ (ev = 0x2 ∧ i = .conv r) ∨ (ev = 0x4 ∧ i = .rx b) ∨ (ev = 0x8 ∧ i = .txack) := by
  rw [oneOperation_decodeEvents] at h
  split_ifs at h with h1 h2 h4 h8
  · exact .inl ⟨h1, (Except.ok.inj h).symm⟩
  · exact .inr (.inl ⟨h2, (Except.ok.inj h).symm⟩)
  · exact .inr (.inr (.inl ⟨h4, (Except.ok.inj h).symm⟩))
  · exact .inr (.inr (.inr ⟨h8, (Except.ok.inj h).symm⟩))

/-! ### What one operation's bits are read as -/

/-- A word that is read has no bit beyond the width of its format (R45). -/
theorem word_lt_of_decode {e : Encoded} {i : Instr} (h : decode e = .ok i) : e.word.toNat < 2 ^ e.format.width := by
  by_contra hw
  simp [decode, Nat.not_lt.mp hw] at h

theorem decode_ev {w : Byte} (hw : w.toNat < 2 ^ 4) (x : Byte) :
    decode ⟨.ev, w, x⟩ = oneOperation (decodeEvents (w.setWidth 4) x x) :=
  if_neg (Nat.not_le.mpr hw)

theorem decode_rst {w x : Byte} {i : Instr} (h : decode ⟨.rst, w, x⟩ = .ok i) : w = 0x1 ∧ i = .reset := by
  have hw : w.toNat < 2 := word_lt_of_decode h
  have hbit : w = 0x0 ∨ w = 0x1 :=
    (show w.toNat = 0 ∨ w.toNat = 1 by omega).imp BitVec.eq_of_toNat_eq BitVec.eq_of_toNat_eq
  rcases hbit with rfl | rfl
  · simp [decode, Format.width] at h
  · exact ⟨rfl, by simpa [decode, Format.width, eq_comm] using h⟩

theorem word_of_setWidth {w v : Byte} (hw : w.toNat < 2 ^ 4) (hv : v.toNat < 2 ^ 4) (h : w.setWidth 4 = v.setWidth 4) :
    w = v := by
  have hmod : w.toNat % 2 ^ 4 = v.toNat % 2 ^ 4 := by simpa using congrArg BitVec.toNat h
  apply BitVec.eq_of_toNat_eq
  rwa [Nat.mod_eq_of_lt hw, Nat.mod_eq_of_lt hv] at hmod

/-- Everything the decoder of one operation reads, format by format. -/
theorem decode_ok {e : Encoded} {i : Instr} (h : decode e = .ok i) :
    (e.format = .cmd ∧ i = (decodeCmd e.word).toInstr) ∨ (e.format = .arg ∧ i = .dutyarg e.word)
      ∨ (e.format = .ev ∧ ((e.word = 0x1 ∧ i = .tick) ∨ (e.word = 0x2 ∧ i = .conv e.operand)
          ∨ (e.word = 0x4 ∧ i = .rx e.operand) ∨ (e.word = 0x8 ∧ i = .txack)))
      ∨ (e.format = .rst ∧ e.word = 0x1 ∧ i = .reset) := by
  obtain ⟨f, w, x⟩ := e
  cases f with
  | cmd =>
    rw [decode_cmd, Except.ok.injEq] at h
    exact .inl ⟨rfl, h.symm⟩
  | arg =>
    rw [decode_arg, Except.ok.injEq] at h
    exact .inr (.inl ⟨rfl, h.symm⟩)
  | ev =>
    have hw : w.toNat < 2 ^ 4 := word_lt_of_decode h
    rw [decode_ev hw] at h
    refine .inr (.inr (.inl ⟨rfl, ?_⟩))
    rcases decodeEvents_one h with ⟨hev, hi⟩ | ⟨hev, hi⟩ | ⟨hev, hi⟩ | ⟨hev, hi⟩
    · exact .inl ⟨word_of_setWidth hw (by decide) hev, hi⟩
    · exact .inr (.inl ⟨word_of_setWidth hw (by decide) hev, hi⟩)
    · exact .inr (.inr (.inl ⟨word_of_setWidth hw (by decide) hev, hi⟩))
    · exact .inr (.inr (.inr ⟨word_of_setWidth hw (by decide) hev, hi⟩))
  | rst => exact .inr (.inr (.inr ⟨rfl, decode_rst h⟩))

/-- The encodings of R45 to R48 and R52 are read back, operand included. -/
theorem decode_encode {i : Instr} (h : WellFormed i = true) : decode (encode i) = .ok i := by
  cases i with
  | tick | txack | reset | dump | hello | setduty => rfl
  | conv r => exact decode_ev (w := 0x2) (by decide) r
  | rx b => exact decode_ev (w := 0x4) (by decide) b
  | nop b =>
    refine (decode_cmd b 0).trans ?_
    rw [Machine.decodeCmd_nop h]
    rfl
  | dutyarg d => exact decode_arg d 0

/-! ### The statements about the bits -/

/-- Settles O51: `decode_encode`, and what can be read back is not shared. -/
theorem decodeInvertsEncode : Obligations.DecodeInvertsEncode := by
  refine ⟨fun i => decode_encode, fun i j hi hj hij => ?_⟩
  have h : decode (encode i) = decode (encode j) := congrArg decode hij
  rw [decode_encode hi, decode_encode hj] at h
  exact Except.ok.inj h

/-- Settles O52, by the cases of `decode_ok`. -/
theorem encodeInvertsDecode : Obligations.EncodeInvertsDecode := by
  rintro ⟨f, w, x⟩ i h
  rcases decode_ok h with ⟨rfl, rfl⟩ | ⟨rfl, rfl⟩ | ⟨rfl, ⟨rfl, rfl⟩ | ⟨rfl, rfl⟩ | ⟨rfl, rfl⟩ | ⟨rfl, rfl⟩⟩ | ⟨rfl, rfl, rfl⟩
  -- a command byte
  case inl =>
    rw [encode_decodeCmd]
    have hne := decodeCmd_ne_conv_rx w
    exact ⟨wellFormed_decodeCmd w, rfl, rfl, fun b hb => (hb.elim (hne b).1 (hne b).2).elim, fun _ => rfl⟩
  -- `CONV`, which samples the data wire
  case inr.inr.inl.inr.inl =>
    exact ⟨rfl, rfl, rfl, by simp [encode], fun hno => absurd rfl (hno x).1⟩
  -- `RX`, which samples the data wire
  case inr.inr.inl.inr.inr.inl =>
    exact ⟨rfl, rfl, rfl, by simp [encode], fun hno => absurd rfl (hno x).2⟩
  -- the others sample no data wire
  all_goals exact ⟨rfl, rfl, rfl, by simp, fun _ => rfl⟩

/-- Settles O48: the operations by `decodeEvents_eventVector`, the bits by `eventVector_bits`. -/
theorem eventVectorSelectsItsOperations : Obligations.EventVectorSelectsItsOperations :=
  fun tick conv rx tx adc b =>
    ⟨Machine.decodeEvents_eventVector tick conv rx tx adc b, eventVector_bits tick conv rx tx⟩

set_option maxRecDepth 4000 in
/-- The rows of the command map that cover a byte are one row, which names the operation read (R47). -/
theorem cmdRows_covering : ∀ b : Byte,
    (cmdRows.filter (fun r => r.covers b)).map TableRow.mnemonic = [(decodeCmd b).toInstr.mnemonic] := by
  decide

/-- Settles O49: the rows by `cmdRows_covering`, what the decoder reads by the cases of a command byte. -/
theorem commandMapIsTotalAndDisjoint : Obligations.CommandMapIsTotalAndDisjoint := by
  intro b
  refine ⟨cmdRows_covering b, ?_⟩
  rcases decodeCmd_cases b with ⟨rfl, h⟩ | ⟨rfl, h⟩ | ⟨rfl, h⟩ | ⟨h1, h2, h3, h⟩
  · decide
  · decide
  · decide
  · simp [h, ← BitVec.ofNat_eq_ofNat, h1, h2, h3]

/-- Settles O50: the formats `CMD` and `ARG` by `decode_cmd` and `decode_arg`, the next state by `exec_surroundings`. -/
theorem everyReceivedByteDecodes : Obligations.EveryReceivedByteDecodes := by
  refine fun b x => ⟨⟨_, decode_cmd b x, wellFormed_decodeCmd b, encode_decodeCmd b, fun h1 h2 h3 => ?_⟩,
    decode_arg b x, fun s => ?_⟩
  · rw [decodeCmd_other h1 h2 h3]
    rfl
  · obtain ⟨t, ht, -⟩ := Machine.exec_surroundings (.rx b) s
    exact ⟨t, ht⟩

/-- Settles O53: ten words are the encodings of their operations, and two are read as no operation. -/
theorem wordsOfTheTable : Obligations.WordsOfTheTable :=
  ⟨decode_encode (i := .tick) rfl, decode_encode (i := .conv 0x5A) rfl, decode_encode (i := .rx 0x83) rfl,
    decode_encode (i := .txack) rfl, decode_encode (i := .reset) rfl, decode_encode (i := .dump) rfl,
    decode_encode (i := .hello) rfl, decode_encode (i := .setduty) rfl, decode_encode (i := .nop 0x83) rfl,
    decode_encode (i := .dutyarg 0x80) rfl, rfl, rfl⟩

end Sys2Proof

namespace Sys2Proof.Safety

open Sys2Proof Sys2Proof.Machine Sys2Proof.Frame

/-! ### The commands of a receive stream, byte by byte (R49) -/

section Take

variable {c : Commands}

theorem Commands.take_operand (h : c.awaiting = true) (b : Byte) :
    c.take b = { c with awaiting := false, duty := b } := by
  simp [Commands.take, h]

theorem Commands.take_dump (h : c.awaiting = false) : c.take cmdDump = { c with dumps := c.dumps + 1 } := by
  simp [Commands.take, cmdDump, h]

theorem Commands.take_hello (h : c.awaiting = false) : c.take cmdHello = { c with hellos := c.hellos + 1 } := by
  simp [Commands.take, cmdHello, h]

theorem Commands.take_setduty (h : c.awaiting = false) : c.take cmdSetduty = { c with awaiting := true } := by
  simp [Commands.take, cmdSetduty, h]

theorem Commands.take_nop (h : c.awaiting = false) {b : Byte} (h1 : b ≠ 0x01) (h2 : b ≠ 0x02) (h3 : b ≠ 0x03) :
    c.take b = c := by
  unfold Commands.take
  rw [if_neg (by simp [h]), if_neg h1, if_neg h2, if_neg h3]

end Take

/-! ### What keeps the dispatcher's ledger -/

/-- The record goes on from `s` to `t` with no byte received and no byte of a response sent. -/
def NoCommandTraffic (s t : State) : Prop :=
  receivedBytes t.trace = receivedBytes s.trace
    ∧ ∀ k, k ≠ .forwarded → sentOfKind k t.trace = sentOfKind k s.trace

/-- The ledger reads the dispatcher's registers, the parameters and the bytes of commands and responses, and nothing else. -/
theorem DispatcherLedger.of_same {s t : State} (h : DispatcherLedger s) (hp : t.params = s.params)
    (hset : t.setpoint = s.setpoint) (hseq : Sequencing s t) (htraffic : NoCommandTraffic s t) :
    DispatcherLedger t := by
  obtain ⟨hmode, hidx⟩ := hseq
  obtain ⟨hrx, htx⟩ := htraffic
  unfold DispatcherLedger
  rw [hp, hset, hmode, hidx, hrx, htx .burst nofun, htx .greeting nofun]
  exact h

section Ledger

variable {s : State} (h : DispatcherLedger s)
include h

theorem DispatcherLedger.setpoint_eq : s.setpoint = (commands (receivedBytes s.trace)).duty := h.1

/-- Outside `ARG` no operand is awaited (R49). -/
theorem DispatcherLedger.no_operand_awaited (hm : s.mode ≠ .arg) : (commands (receivedBytes s.trace)).awaiting = false := by
  obtain ⟨-, hwait, -, -⟩ := h
  rw [hwait, decide_eq_false hm]

/-- With no response under way, all that was due has been sent (R87, R88). -/
theorem DispatcherLedger.answered (hm : s.mode = .idle ∨ s.mode = .arg) :
    (sentOfKind .burst s.trace).length = s.params.burstLen * (commands (receivedBytes s.trace)).dumps
      ∧ sentOfKind .greeting s.trace
        = (List.replicate (commands (receivedBytes s.trace)).hellos s.params.greeting).flatten := by
  obtain ⟨-, -, hburst, hgreet⟩ := h
  rcases hm with hm | hm <;> simpa [hm] using And.intro hburst hgreet

/-! A byte received. -/

theorem DispatcherLedger.startBurst (hm : s.mode = .idle) : DispatcherLedger (s.startBurst.record (.rx cmdDump)) := by
  have hwait := h.no_operand_awaited (by simp [hm])
  obtain ⟨hburst, hgreet⟩ := h.answered (.inl hm)
  simp [DispatcherLedger, commands_append_one, Commands.take_dump hwait, hwait, hburst, hgreet, h.setpoint_eq, Nat.mul_succ]

theorem DispatcherLedger.startGreeting (hm : s.mode = .idle) :
    DispatcherLedger (s.startGreeting.record (.rx cmdHello)) := by
  have hwait := h.no_operand_awaited (by simp [hm])
  obtain ⟨hburst, hgreet⟩ := h.answered (.inl hm)
  simp [DispatcherLedger, commands_append_one, Commands.take_hello hwait, hwait, hburst, hgreet, h.setpoint_eq,
    List.replicate_succ']

theorem DispatcherLedger.awaitOperand (hm : s.mode = .idle) :
    DispatcherLedger (s.awaitOperand.record (.rx cmdSetduty)) := by
  have hwait := h.no_operand_awaited (by simp [hm])
  obtain ⟨hburst, hgreet⟩ := h.answered (.inl hm)
  simp [DispatcherLedger, commands_append_one, Commands.take_setduty hwait, hburst, hgreet, h.setpoint_eq]

theorem DispatcherLedger.nop (hm : s.mode = .idle) {b : Byte} (h1 : b ≠ 0x01) (h2 : b ≠ 0x02) (h3 : b ≠ 0x03) :
    DispatcherLedger (s.record (.rx b)) := by
  have hwait := h.no_operand_awaited (by simp [hm])
  obtain ⟨hburst, hgreet⟩ := h.answered (.inl hm)
  simp [DispatcherLedger, commands_append_one, Commands.take_nop hwait h1 h2 h3, hm, hwait, hburst, hgreet, h.setpoint_eq]

theorem DispatcherLedger.operand (hm : s.mode = .arg) (d : Byte) :
    DispatcherLedger ((s.setSetpoint d).toIdle.record (.rx d)) := by
  have hwait : (commands (receivedBytes s.trace)).awaiting = true := by
    obtain ⟨-, hwait, -, -⟩ := h
    rw [hwait, decide_eq_true hm]
  obtain ⟨hburst, hgreet⟩ := h.answered (.inr hm)
  simp [DispatcherLedger, commands_append_one, Commands.take_operand hwait, hburst, hgreet]

/-! A byte of a response sent: what is sent grows by the byte by which what is due shrinks. -/

theorem DispatcherLedger.burstTaken (hv : s.fwdValid = false) (hm : s.mode = .dump) (b : Byte) :
    DispatcherLedger (s.taken.record (.txack .burst b)) := by
  obtain ⟨hduty, hwait, hburst, hgreet⟩ := h
  have hidx := State.idx_of_dump hm
  simp only [hm, reduceCtorEq, decide_false, if_false, if_true, List.append_nil] at hwait hburst hgreet
  by_cases hi : s.idx = 1
  · rw [hi] at hburst
    simpa [DispatcherLedger, State.taken_dump_last hv hm hi, hduty, hwait] using ⟨hburst, hgreet⟩
  · have hless : (sentOfKind .burst s.trace).length + 1 + (s.idx - 1)
        = s.params.burstLen * (commands (receivedBytes s.trace)).dumps := by omega
    simpa [DispatcherLedger, State.taken_dump_more hv hm hi, hduty, hwait] using ⟨hless, hgreet⟩

theorem DispatcherLedger.greetingTaken (hv : s.fwdValid = false) (hm : s.mode = .hello) :
    DispatcherLedger (s.taken.record (.txack .greeting (s.params.greeting[s.idx]'(State.idx_of_hello hm)))) := by
  obtain ⟨hduty, hwait, hburst, hgreet⟩ := h
  have hlt := State.idx_of_hello hm
  simp only [hm, reduceCtorEq, decide_false, if_false, if_true] at hwait hburst hgreet
  by_cases hi : s.idx = s.params.greetLen - 1
  · have hend : s.params.greeting.drop (s.idx + 1) = [] :=
      List.drop_eq_nil_of_le (by unfold Params.greetLen at hi; omega)
    rw [List.drop_eq_getElem_cons hlt, hend] at hgreet
    simpa [DispatcherLedger, State.taken_hello_last hv hm hi, hduty, hwait] using ⟨hburst, hgreet⟩
  · simpa [DispatcherLedger, State.taken_hello_more hv hm hi, hduty, hwait] using ⟨hburst, hgreet⟩

/-! The four events of a cycle. -/

theorem DispatcherLedger.exec_txack : ∃ t, exec .txack s = .next t ∧ DispatcherLedger t := by
  cases hv : s.fwdValid with
  | true =>
    refine ⟨_, exec_txack_offer (State.txOffer_full hv), h.of_same (by simp) (by simp) ?_ ?_⟩
    · simp [Sequencing, State.taken_full hv]
    · simp +contextual [NoCommandTraffic, eq_comm]
  | false =>
    cases hm : s.mode with
    | idle => exact ⟨s, exec_txack_none (State.txOffer_none hv (.inl hm)), h⟩
    | arg => exact ⟨s, exec_txack_none (State.txOffer_none hv (.inr hm)), h⟩
    | dump => exact ⟨_, exec_txack_offer (State.txOffer_dump hv hm), h.burstTaken hv hm _⟩
    | hello => exact ⟨_, exec_txack_offer (State.txOffer_hello hv hm), h.greetingTaken hv hm⟩

theorem DispatcherLedger.exec_rx (b : Byte) : ∃ t, exec (.rx b) s = .next t ∧ DispatcherLedger t := by
  cases hr : s.rxReady with
  | false => exact ⟨s, exec_rx_not_ready b hr, h⟩
  | true =>
    rw [exec_rx_ready b hr]
    rcases (rxReady_iff s).mp hr with hm | hm
    · rw [received_idle b hm]
      rcases decodeCmd_cases b with ⟨-, hb⟩ | ⟨-, hb⟩ | ⟨-, hb⟩ | ⟨h1, h2, h3, hb⟩ <;> rw [hb]
      · exact ⟨_, exec_dump_idle hm, h.startBurst hm⟩
      · exact ⟨_, exec_hello_idle hm, h.startGreeting hm⟩
      · exact ⟨_, exec_setduty_idle hm, h.awaitOperand hm⟩
      · exact ⟨_, exec_nop_idle b hm, h.nop hm h1 h2 h3⟩
    · rw [received_arg b hm]
      exact ⟨_, exec_dutyarg_arg b hm, h.operand hm b⟩

theorem DispatcherLedger.exec_event {i : Instr} (hi : IsEvent i = true) :
    ∃ t, exec i s = .next t ∧ DispatcherLedger t := by
  cases i with
  | tick => exact ⟨_, rfl, h.of_same rfl rfl ⟨rfl, rfl⟩ (by simp [NoCommandTraffic])⟩
  | conv r => exact ⟨_, rfl, h.of_same (by simp) (by simp) (by simp [Sequencing]) (by simp [NoCommandTraffic])⟩
  | rx b => exact h.exec_rx b
  | txack => exact h.exec_txack
  | reset | dump | hello | setduty | nop | dutyarg => cases hi

end Ledger

theorem DispatcherLedger.runOps {ops : List Instr} (hops : ∀ i ∈ ops, IsEvent i = true) {s : State}
    (h : DispatcherLedger s) : ∃ t, Machine.runOps ops s = .next t ∧ DispatcherLedger t := by
  induction ops generalizing s with
  | nil => exact ⟨s, rfl, h⟩
  | cons i is ih =>
    obtain ⟨hi, his⟩ := List.forall_mem_cons.mp hops
    obtain ⟨t, he, ht⟩ := h.exec_event hi
    obtain ⟨u, hr, hu⟩ := ih his ht
    exact ⟨u, (runOps_cons_next he).trans hr, hu⟩

/-- Settles O24: with `rst` the ledger begins anew, without it every event of the cycle keeps it. -/
theorem dispatcherLedgerIsKept : Obligations.DispatcherLedgerIsKept := by
  intro s h
  cases hr : s.inputs.rst with
  | true => exact ⟨_, step_reset hr, dispatcherLedger_reset s.params⟩
  | false => exact DispatcherLedger.runOps (s := s.sampled) (cycleOps_isEvent hr) h

end Sys2Proof.Safety

namespace Sys2Proof.Machine

open Sys2Proof Sys2Proof.Safety Sys2Proof.Frame

/-! ### A command of two bytes -/

/-- The dispatcher is where it was, and no byte has been received or sent. -/
def DispatcherWaits (s t : State) : Prop :=
  t.mode = s.mode ∧ receivedBytes t.trace = receivedBytes s.trace ∧ sentBytes t.trace = sentBytes s.trace

theorem exec_tick_or_conv_waits {i : Instr} (hi : i = .tick ∨ ∃ r, i = .conv r) (s : State) :
    ∃ t, exec i s = .next t ∧ DispatcherWaits s t := by
  rcases hi with rfl | ⟨r, rfl⟩ <;> exact ⟨_, rfl, by simp [DispatcherWaits]⟩

/-- The wait for an operand has no time limit: ticks and conversions go on (R84). -/
theorem runOps_ticks_and_convs_waits {ops : List Instr} (hops : ∀ i ∈ ops, i = .tick ∨ ∃ r, i = .conv r) (s : State) :
    ∃ t, runOps ops s = .next t ∧ DispatcherWaits s t := by
  induction ops generalizing s with
  | nil => exact ⟨s, rfl, rfl, rfl, rfl⟩
  | cons i is ih =>
    obtain ⟨hi, his⟩ := List.forall_mem_cons.mp hops
    obtain ⟨t, he, hm, hrx, htx⟩ := exec_tick_or_conv_waits hi s
    obtain ⟨u, hr, hm', hrx', htx'⟩ := ih his t
    exact ⟨u, (runOps_cons_next he).trans hr, hm'.trans hm, hrx'.trans hrx, htx'.trans htx⟩

theorem exec_rx_setduty {s : State} (hm : s.mode = .idle) :
    exec (.rx 0x03) s = .next (s.awaitOperand.record (.rx 0x03)) := by
  rw [exec_rx_ready _ ((rxReady_iff s).mpr (.inl hm)), received_idle _ hm]
  exact exec_setduty_idle hm

theorem exec_rx_operand {s : State} (hm : s.mode = .arg) (d : Byte) :
    exec (.rx d) s = .next ((s.setSetpoint d).toIdle.record (.rx d)) := by
  rw [exec_rx_ready _ ((rxReady_iff s).mpr (.inr hm)), received_arg _ hm]
  exact exec_dutyarg_arg d hm

/-- Settles O23: 0x03 awaits an operand, ticks and conversions leave it awaited, and in `ARG` any byte is the operand. -/
theorem setdutyCommandStoresAnyOperand : Obligations.SetdutyCommandStoresAnyOperand := by
  intro between d s hm hbetween
  obtain ⟨u, hr, hmu, hrx, htx⟩ := runOps_ticks_and_convs_waits hbetween (s.awaitOperand.record (.rx 0x03))
  have hrun : runOps ([.rx 0x03] ++ between) s = .next u := (runOps_cons_next (exec_rx_setduty hm)).trans hr
  refine ⟨_, (runOps_append_next hrun).trans (runOps_cons_next (exec_rx_operand hmu d)), rfl, rfl, rfl, ?_, ?_⟩
  · simp [hrx]
  · simp [htx]

end Sys2Proof.Machine
end

section
/-! SUPPORT. Proofs of the statements of spec/40_pwm.md: `TICK` (R60 to R62), the levels a run of ticks writes (R64 to R66), and
the PWM engine's ledger (R62, R66, R67). -/

namespace Sys2Proof.Machine

open Sys2Proof Sys2Proof.Safety Sys2Proof.Frame

/-! ### What leaves the PWM alone -/

/-- `phase`, the pin and the levels recorded are the same. -/
def SamePin (s t : State) : Prop := Pwm s t ∧ pwmLevels t.trace = pwmLevels s.trace

theorem SamePin.refl (s : State) : SamePin s s := ⟨⟨rfl, rfl⟩, rfl⟩

theorem exec_received_samePin (c : Received) (s : State) : ∃ t, exec c.toInstr s = .next t ∧ SamePin s t := by
  cases c <;> refine ⟨_, rfl, ?_⟩ <;> split <;> simp [SamePin, Pwm]

/-- R62, R67: every operation but `TICK` and `RESET` leaves the PWM alone and records no level. -/
theorem exec_samePin {i : Instr} (htick : i ≠ .tick) (hreset : i ≠ .reset) (s : State) :
    ∃ t, exec i s = .next t ∧ SamePin s t := by
  cases i with
  | tick => exact absurd rfl htick
  | conv r => exact ⟨_, rfl, by simp [SamePin, Pwm]⟩
  | rx b =>
    cases h : s.rxReady with
    | false => exact ⟨s, exec_rx_not_ready b h, SamePin.refl s⟩
    | true =>
      rw [exec_rx_ready b h]
      exact exec_received_samePin _ s
  | txack =>
    cases h : s.txValid with
    | false => exact ⟨s, exec_txack_not_valid h, SamePin.refl s⟩
    | true =>
      obtain ⟨k, b, he⟩ := exec_txack_valid h
      exact ⟨_, he, by simp [SamePin, Pwm]⟩
  | reset => exact absurd rfl hreset
  | dump => exact exec_received_samePin .dump s
  | hello => exact exec_received_samePin .hello s
  | setduty => exact exec_received_samePin .setduty s
  | nop b => exact exec_received_samePin (.nop b) s
  | dutyarg d => exact exec_received_samePin (.dutyarg d) s

/-! ### The ledger -/

/-- A tick adds one level to the record, one to `phase`, and shows the level on the pin. -/
theorem exec_tick_pwmLedger {s : State} (h : PwmLedger s) : ∃ t, exec .tick s = .next t ∧ PwmLedger t := by
  obtain ⟨hphase, -⟩ := h
  exact ⟨_, rfl, by simp [hphase], by simp⟩

theorem pwmLedger_of_samePin {s t : State} (h : PwmLedger s) (hpin : SamePin s t) : PwmLedger t := by
  obtain ⟨⟨hphase, hout⟩, hlevels⟩ := hpin
  unfold PwmLedger
  rw [hphase, hout, hlevels]
  exact h

theorem exec_pwmLedger (i : Instr) {s : State} (h : PwmLedger s) : ∃ t, exec i s = .next t ∧ PwmLedger t := by
  by_cases htick : i = .tick
  · subst htick
    exact exec_tick_pwmLedger h
  by_cases hreset : i = .reset
  · subst hreset
    exact ⟨_, rfl, pwmLedger_reset s.params⟩
  · obtain ⟨t, he, hpin⟩ := exec_samePin htick hreset s
    exact ⟨t, he, pwmLedger_of_samePin h hpin⟩

theorem runOps_pwmLedger (ops : List Instr) {s : State} (h : PwmLedger s) :
    ∃ t, runOps ops s = .next t ∧ PwmLedger t := by
  induction ops generalizing s with
  | nil => exact ⟨s, rfl, h⟩
  | cons i is ih =>
    obtain ⟨t, he, ht⟩ := exec_pwmLedger i h
    obtain ⟨u, hr, hu⟩ := ih ht
    exact ⟨u, (runOps_cons_next he).trans hr, hu⟩

/-- Settles O5: every operation of the cycle, `RESET` included, keeps the ledger, and sampling the inputs does not touch it. -/
theorem pwmLedgerIsKept : Obligations.PwmLedgerIsKept := fun s h =>
  runOps_pwmLedger s.cycleOps (s := s.sampled) h

/-! ### One tick -/

theorem tick_mem_cycleOps (s : State) :
    Instr.tick ∈ s.cycleOps ↔ s.inputs.tick = true ∧ s.inputs.rst = false := by
  cases hr : s.inputs.rst with
  | true => simp [State.cycleOps, decodeCycle_reset _ _ hr]
  | false => simp [cycleOps_of_no_reset hr]

theorem tick_or_reset_of_phase_ne {i : Instr} {s t : State} (he : exec i s = .next t) (hne : t.phase ≠ s.phase) :
    i = .tick ∨ i = .reset := by
  by_contra hi
  obtain ⟨htick, hreset⟩ := not_or.mp hi
  obtain ⟨u, hu, ⟨hphase, -⟩, -⟩ := exec_samePin htick hreset s
  obtain rfl : t = u := by simpa [he] using hu
  exact hne hphase

/-- Settles O1: the comparison is strict, so it fails at `phase` = `setpoint`, at `setpoint` = 0 and at `phase` = 255. -/
theorem tickLatchesThenAdvances : Obligations.TickLatchesThenAdvances := by
  intro s
  refine ⟨⟨_, rfl, comparator_eq s.phase s.setpoint, by simp, fun h => ?_, fun h => ?_, fun h => ⟨?_, ?_⟩, rfl, rfl,
    ⟨rfl, rfl⟩, ⟨rfl, rfl⟩, rfl, ⟨rfl, rfl⟩, Surroundings.refl s⟩, tick_mem_cycleOps s,
    fun i t => tick_or_reset_of_phase_ne⟩
  · simp [comparator_eq, h]
  · simp [comparator_eq, h]
  · simpa [comparator_eq, h] using Nat.le_of_lt_succ s.setpoint.isLt
  · simp [h]

/-! ### The levels of a run of ticks -/

/-- The levels `n` ticks write with `setpoint` = `S`, where the first finds `phase` = `p` modulo 256 (R60, R66). -/
def levelsFrom (S : Byte) (p n : Nat) : List Bool :=
  (List.range' p n).map (fun k => decide (k % 256 < S.toNat))

section Levels

variable (S : Byte)

@[simp] theorem length_levelsFrom (p n : Nat) : (levelsFrom S p n).length = n := by
  simp [levelsFrom]

theorem getElem?_levelsFrom (p : Nat) {k n : Nat} (h : k < n) :
    (levelsFrom S p n)[k]? = some (decide ((p + k) % 256 < S.toNat)) := by
  simp [levelsFrom, List.getElem?_range' h]

theorem levelsFrom_append (p m n : Nat) :
    levelsFrom S p m ++ levelsFrom S (p + m) n = levelsFrom S p (m + n) := by
  simp [levelsFrom, ← List.map_append, List.range'_append_1]

@[simp] theorem levelsFrom_zero (p : Nat) : levelsFrom S p 0 = [] := rfl

theorem levelsFrom_one (p : Byte) : levelsFrom S p.toNat 1 = [comparator p S] := by
  simp [levelsFrom, comparator_eq, Nat.mod_eq_of_lt p.isLt]

/-- Only the phase modulo 256 counts. -/
theorem levelsFrom_congr {p q : Nat} (h : p % 256 = q % 256) (n : Nat) : levelsFrom S p n = levelsFrom S q n := by
  apply List.ext_getElem? fun k => ?_
  by_cases hk : k < n
  · rw [getElem?_levelsFrom S p hk, getElem?_levelsFrom S q hk, Nat.add_mod, h, ← Nat.add_mod]
  · simp [levelsFrom, hk]

/-- From `phase` 0, the first `S` ticks of a period are high. -/
theorem count_levelsFrom_zero {n : Nat} (h : n ≤ 256) : (levelsFrom S 0 n).count true = min S.toNat n := by
  induction n with
  | zero => simp
  | succ n ih =>
    have hlast : levelsFrom S n 1 = [decide (n < S.toNat)] := by
      simp [levelsFrom, Nat.mod_eq_of_lt h]
    rw [← levelsFrom_append, Nat.zero_add, List.count_append, ih (Nat.le_of_succ_le h), hlast, List.count_singleton]
    simp only [beq_true, decide_eq_true_eq]
    split <;> omega

/-- R65: wherever a period begins, `S` of its ticks are high. The window of 256 ticks slides from 0 to `p`: the `p` ticks it
leaves behind write what the `p` ticks it takes in do. -/
theorem count_levelsFrom_period (p : Nat) : (levelsFrom S p 256).count true = S.toNat := by
  have hslide : levelsFrom S 0 p ++ levelsFrom S p 256 = levelsFrom S 0 256 ++ levelsFrom S 0 p :=
    calc levelsFrom S 0 p ++ levelsFrom S p 256
      _ = levelsFrom S 0 (256 + p) := by
        rw [Nat.add_comm 256, ← levelsFrom_append, Nat.zero_add]
      _ = levelsFrom S 0 256 ++ levelsFrom S 0 p := by
        rw [← levelsFrom_append, levelsFrom_congr S (p := 0 + 256) (q := 0) rfl]
  have hcount := congrArg (List.count true) hslide
  rw [List.count_append, List.count_append, count_levelsFrom_zero S le_rfl] at hcount
  have := S.isLt
  omega

/-- R64: what is left of a period at `phase` = `c` has the high ticks that do not lie before `c`. -/
theorem count_levelsFrom_rest {c : Nat} (h : c ≤ 256) :
    (levelsFrom S c (256 - c)).count true = S.toNat - c := by
  have hcount := congrArg (List.count true) (levelsFrom_append S 0 c (256 - c))
  rw [List.count_append, Nat.zero_add, Nat.add_sub_cancel' h, count_levelsFrom_zero S h,
    count_levelsFrom_zero S le_rfl] at hcount
  have := S.isLt
  omega

end Levels

/-! ### Runs with ticks in them -/

/-- `phase` and the levels recorded go from `s` to `t` as `n` ticks that find `setpoint` = `S` take them. -/
structure Ticked (S : Byte) (n : Nat) (s t : State) : Prop where
  phase : t.phase.toNat = (s.phase.toNat + n) % 256
  levels : pwmLevels t.trace = pwmLevels s.trace ++ levelsFrom S s.phase.toNat n

theorem Ticked.of_samePin (S : Byte) {s t : State} (h : SamePin s t) : Ticked S 0 s t := by
  obtain ⟨⟨hphase, -⟩, hlevels⟩ := h
  exact ⟨by rw [hphase, Nat.add_zero, Nat.mod_eq_of_lt s.phase.isLt], by simp [hlevels]⟩

/-- The levels, from any number that is the starting phase modulo 256. -/
theorem Ticked.levels_from {S : Byte} {n p : Nat} {s t : State} (h : Ticked S n s t) (hp : s.phase.toNat = p % 256) :
    pwmLevels t.trace = pwmLevels s.trace ++ levelsFrom S p n := by
  rw [h.levels, levelsFrom_congr S (p := s.phase.toNat) (q := p) (by rw [hp, Nat.mod_mod])]

theorem Ticked.trans {S : Byte} {m n : Nat} {s t u : State} (h : Ticked S m s t) (h' : Ticked S n t u) :
    Ticked S (m + n) s u where
  phase := by
    rw [h'.phase, h.phase]
    omega
  levels := by
    rw [h'.levels_from h.phase, h.levels, List.append_assoc, levelsFrom_append]

theorem Ticked.phase_eq {S : Byte} {s t : State} (h : Ticked S 256 s t) : t.phase = s.phase := by
  apply BitVec.eq_of_toNat_eq
  rw [h.phase, Nat.add_mod_right, Nat.mod_eq_of_lt s.phase.isLt]

theorem exec_tick_ticked (s : State) :
    ∃ t, exec .tick s = .next t ∧ Ticked s.setpoint 1 s t ∧ t.setpoint = s.setpoint ∧ t.mode = s.mode :=
  ⟨_, rfl, ⟨by simp, by simp [levelsFrom_one]⟩, rfl, rfl⟩

theorem exec_ticked {S : Byte} {i : Instr} {s : State} (hreset : i ≠ .reset) (hS : i = .tick → s.setpoint = S) :
    ∃ t, exec i s = .next t ∧ Ticked S ([i].count .tick) s t := by
  by_cases htick : i = .tick
  · subst htick
    obtain ⟨t, he, ht, -⟩ := exec_tick_ticked s
    exact ⟨t, he, hS rfl ▸ ht⟩
  · obtain ⟨t, he, hpin⟩ := exec_samePin htick hreset s
    rw [List.count_eq_zero_of_not_mem (by simpa using Ne.symm htick)]
    exact ⟨t, he, Ticked.of_samePin S hpin⟩

theorem runOps_ticked {S : Byte} {ops : List Instr} {s : State} (hreset : ∀ i ∈ ops, i ≠ .reset)
    (hS : TicksFind S ops s) : ∃ t, runOps ops s = .next t ∧ Ticked S (ops.count .tick) s t := by
  induction ops generalizing s with
  | nil => exact ⟨s, rfl, Ticked.of_samePin S (SamePin.refl s)⟩
  | cons i is ih =>
    obtain ⟨hi, his⟩ := List.forall_mem_cons.mp hreset
    obtain ⟨hfirst, hrest⟩ := hS
    obtain ⟨t, he, ht⟩ := exec_ticked hi hfirst
    obtain ⟨u, hr, hu⟩ := ih his (hrest t he)
    rw [← List.singleton_append, List.count_append]
    exact ⟨u, (runOps_cons_next he).trans hr, ht.trans hu⟩

theorem runOps_ticks (n : Nat) (s : State) :
    ∃ t, runOps (List.replicate n .tick) s = .next t
      ∧ Ticked s.setpoint n s t ∧ t.setpoint = s.setpoint ∧ t.mode = s.mode := by
  induction n generalizing s with
  | zero => exact ⟨s, rfl, Ticked.of_samePin _ (SamePin.refl s), rfl, rfl⟩
  | succ n ih =>
    obtain ⟨t, he, ht, hset, hmode⟩ := exec_tick_ticked s
    obtain ⟨u, hr, hu, hset', hmode'⟩ := ih t
    rw [hset] at hu hset'
    exact ⟨u, (runOps_cons_next he).trans hr, Nat.add_comm 1 n ▸ ht.trans hu, hset', hmode'.trans hmode⟩

/-- Settles O2: the 256 ticks write the levels of one period. -/
theorem dutyCycleLaw : Obligations.DutyCycleLaw := by
  intro ops S s hreset hS hticks
  obtain ⟨t, hr, ht⟩ := runOps_ticked hreset hS
  rw [List.count_eq_length_filter, hticks] at ht
  have htrue := count_levelsFrom_period S s.phase.toNat
  have hall := List.count_true_add_count_false (levelsFrom S s.phase.toNat 256)
  rw [htrue, length_levelsFrom] at hall
  exact ⟨t, _, hr, ht.phase_eq, ht.levels, length_levelsFrom .., htrue, Nat.eq_sub_of_add_eq' hall,
    fun n => getElem?_levelsFrom S _⟩

/-- Settles O3: the level of a tick depends on its number only through its phase. -/
theorem pwmPeriodIs256Ticks : Obligations.PwmPeriodIs256Ticks := by
  intro n s
  obtain ⟨t, hr, ht, -⟩ := runOps_ticks n s
  refine ⟨t, _, hr, ht.levels, length_levelsFrom .., ?_, fun k hk => ?_, fun h0 k hk => ?_⟩
  · rintro rfl
    exact ht.phase_eq
  · rw [getElem?_levelsFrom _ _ hk, getElem?_levelsFrom _ _ (Nat.lt_of_add_right_lt hk), ← Nat.add_assoc,
      Nat.add_mod_right]
  · have hs : s.phase.toNat = 0 := by simp [h0]
    rw [getElem?_levelsFrom _ _ hk, hs, Nat.zero_add]

/-- The change of `setpoint` in the middle of the run: ticks, the operand, more ticks (R63). -/
theorem runOps_ticks_operand_ticks {s : State} (hm : s.mode = .arg) (B : Byte) (c n : Nat) :
    ∃ t u, runOps (List.replicate c .tick ++ [.dutyarg B] ++ List.replicate n .tick) s = .next u
      ∧ Ticked s.setpoint c s t ∧ Ticked B n t u ∧ u.setpoint = B := by
  obtain ⟨t, hrt, ht, -, hmode⟩ := runOps_ticks c s
  obtain ⟨u, hru, hu, hset, -⟩ := runOps_ticks n ((t.setSetpoint B).toIdle.record (.rx B))
  have hoperand : runOps [.dutyarg B] t = .next ((t.setSetpoint B).toIdle.record (.rx B)) :=
    runOps_cons_next (exec_dutyarg_arg B (hmode.trans hm))
  have hpin : SamePin t ((t.setSetpoint B).toIdle.record (.rx B)) := by simp [SamePin, Pwm]
  refine ⟨t, u, ?_, ht, ?_, hset⟩
  · rw [List.append_assoc, runOps_append_next hrt, runOps_append_next hoperand, hru]
  · exact Nat.zero_add n ▸ (Ticked.of_samePin B hpin).trans hu

/-- Settles O4: the ticks before the change write the first `c` levels of a period of `A`, those after it the last `256 - c` of a
period of `B`, and the next 256 a whole period of `B`. -/
theorem pulseShapeOfAChangedPeriod : Obligations.PulseShapeOfAChangedPeriod := by
  intro s B c h0 hm hc
  obtain ⟨t, u, hru, ht, hu, hset⟩ := runOps_ticks_operand_ticks hm B c (256 - c)
  obtain ⟨v, hrv, hv, -⟩ := runOps_ticks 256 u
  have hs : s.phase.toNat = 0 := by simp [h0]
  have hphase : t.phase.toNat = c % 256 := by rw [ht.phase, hs, Nat.zero_add]
  refine ⟨v, levelsFrom s.setpoint 0 c ++ levelsFrom B c (256 - c), levelsFrom B u.phase.toNat 256,
    (runOps_append_next hru).trans hrv, ?_, ?_, ?_, count_levelsFrom_period B _⟩
  · rw [hv.levels, hset, hu.levels_from hphase, ht.levels_from (p := 0) hs, List.append_assoc (pwmLevels s.trace)]
  · rw [List.length_append, length_levelsFrom, length_levelsFrom, Nat.add_sub_cancel' hc]
  · rw [List.count_append, count_levelsFrom_zero _ hc, count_levelsFrom_rest B hc]

end Sys2Proof.Machine
end

section
/-! SUPPORT. Proofs of the statements of spec/41_decimator.md: `CONV` (R70 to R73), the range of `dec_count` (R77), the
conversions an overrun needs (R75), and the decimator's ledger (R76, R99, R101, R107). -/

namespace Sys2Proof.Machine

/-- What each operation of a run keeps, the run keeps. -/
theorem runOps_keeps {P : State → Prop} {ops : List Instr}
    (hkeep : ∀ i ∈ ops, ∀ s, P s → ∃ t, exec i s = .next t ∧ P t) {s : State} (h : P s) :
    ∃ t, runOps ops s = .next t ∧ P t := by
  induction ops generalizing s with
  | nil => exact ⟨s, rfl, h⟩
  | cons i is ih =>
    obtain ⟨hi, his⟩ := List.forall_mem_cons.mp hkeep
    obtain ⟨t, he, ht⟩ := hi s h
    obtain ⟨u, hr, hu⟩ := ih his ht
    exact ⟨u, (runOps_cons_next he).trans hr, hu⟩

end Sys2Proof.Machine

namespace Sys2Proof.Safety

open Sys2Proof Sys2Proof.Machine Sys2Proof.Frame

/-! ### Forwards made and forwards due -/

/-- The forwards a run has made: the forwarded bytes sent, then the one in the slot. -/
def forwards (s : State) : List Byte := sentOfKind .forwarded s.trace ++ slot s

/-- The forwards `made` are those `due`, or fewer of them, in order, where `ovr` says that one was lost (R75, R107). -/
def MadeOfDue (made due : List Byte) (ovr : Bool) : Prop :=
  made.Sublist due ∧ (ovr = false → made = due) ∧ (ovr = true → made.length < due.length)

theorem decimatorLedger_iff (s : State) :
    DecimatorLedger s ↔ s.decCount = (conversions s.trace).length % (s.params.K + 1)
      ∧ s.reading = (conversions s.trace).getLast?.getD 0x00
      ∧ MadeOfDue (forwards s) (dueForwards s.params.K (conversions s.trace)) s.ovr := Iff.rfl

section MadeOfDue

variable {made due : List Byte} {ovr : Bool} (h : MadeOfDue made due ovr) (r : Byte)
include h

/-- A forward that is made. -/
theorem MadeOfDue.concat : MadeOfDue (made ++ [r]) (due ++ [r]) ovr := by
  obtain ⟨hsub, hall, hfewer⟩ := h
  exact ⟨hsub.append_right [r], fun ho => congrArg (· ++ [r]) (hall ho), fun ho => by simpa using hfewer ho⟩

/-- A forward that is lost. -/
theorem MadeOfDue.lose : MadeOfDue made (due ++ [r]) true := by
  obtain ⟨hsub, -, -⟩ := h
  exact ⟨hsub.trans (List.sublist_append_left due [r]), nofun,
    fun _ => by simpa [Nat.lt_succ_iff] using hsub.length_le⟩

end MadeOfDue

/-! ### What a conversion forwards -/

/-- The state after `CONV r` (R70). -/
theorem exec_conv_eq (r : Byte) (s : State) :
    exec (.conv r) s = .next (((s.setReading r).notify r).record (.conv r)) := rfl

/-- Where the slot stays and no forwarded byte is sent, no forward is made. -/
theorem forwards_eq {s t : State} (hslot : Slot s t)
    (hsent : sentOfKind .forwarded t.trace = sentOfKind .forwarded s.trace) : forwards t = forwards s := by
  obtain ⟨hvalid, hdata⟩ := hslot
  simp only [forwards, slot, hvalid, hdata, hsent]

/-- Only at `K`, and with the slot empty, does a conversion add its result to the forwards made (R72, R73). -/
theorem forwards_conv (r : Byte) (s : State) :
    forwards (((s.setReading r).notify r).record (.conv r))
      = forwards s ++ if s.decCount = s.params.K ∧ s.fwdValid = false then [r] else [] := by
  cases hv : s.fwdValid <;> by_cases hK : s.decCount = s.params.K <;>
    simp [forwards, slot, State.notify_fwdValid, State.notify_fwdData, hv, hK]

/-! ### What keeps the decimator's ledger -/

/-- The ledger reads the sampler's registers, `ovr`, the parameters, the conversions and the forwards made, and nothing else. -/
theorem DecimatorLedger.of_same {s t : State} (h : DecimatorLedger s) (hp : t.params = s.params) (hsampler : Sampler s t)
    (hovr : t.ovr = s.ovr) (hconv : conversions t.trace = conversions s.trace) (hfwd : forwards t = forwards s) :
    DecimatorLedger t := by
  obtain ⟨hreading, hcount⟩ := hsampler
  rw [decimatorLedger_iff, hp, hreading, hcount, hovr, hconv, hfwd]
  exact h

section Ledger

variable {s : State} (h : DecimatorLedger s)
include h

/-- A conversion is due to be forwarded exactly where it finds `dec_count` = `K` (R72, R76). -/
theorem DecimatorLedger.due_conv (r : Byte) :
    dueForwards s.params.K (conversions s.trace ++ [r])
      = dueForwards s.params.K (conversions s.trace) ++ if s.decCount = s.params.K then [r] else [] := by
  obtain ⟨hcount, -⟩ := h
  rw [dueForwards_append_one, ← hcount]

/-- What is due grows by `r` at `K`; what is made grows with it, unless the slot is full and `ovr` is set. -/
theorem DecimatorLedger.madeOfDue_conv (r : Byte) :
    MadeOfDue (forwards (((s.setReading r).notify r).record (.conv r)))
      (dueForwards s.params.K (conversions s.trace ++ [r])) ((s.setReading r).notify r).ovr := by
  obtain ⟨-, -, hmade⟩ := (decimatorLedger_iff s).mp h
  rw [forwards_conv, h.due_conv, State.notify_ovr]
  by_cases hK : s.decCount = s.params.K
  · cases hv : s.fwdValid with
    | false => simpa [hK, hv] using hmade.concat r
    | true => simpa [hK, hv] using hmade.lose r
  · simpa [hK] using hmade

theorem DecimatorLedger.exec_conv (r : Byte) : ∃ t, exec (.conv r) s = .next t ∧ DecimatorLedger t := by
  have hmade := h.madeOfDue_conv r
  obtain ⟨hcount, -⟩ := h
  refine ⟨_, exec_conv_eq r s, (decimatorLedger_iff _).mpr ⟨?_, ?_, ?_⟩⟩
  · simp [State.notify_decCount, hcount]
  · simp
  · simpa using hmade

/-- A received byte is none of the decimator's business, whatever it is read as (R43). -/
theorem DecimatorLedger.exec_rx (b : Byte) : ∃ t, exec (.rx b) s = .next t ∧ DecimatorLedger t := by
  have hlines := s.block.lines_rx_cases b
  refine ⟨_, exec_rx_advance s b, h.of_same rfl ⟨s.block.rx_reading b, s.block.rx_decCount b⟩ (s.block.rx_ovr b) ?_ ?_⟩
  · rcases hlines with hl | hl <;> simp [State.advance, hl]
  · refine forwards_eq ⟨s.block.rx_fwdValid b, s.block.rx_fwdData b⟩ ?_
    rcases hlines with hl | hl <;> simp [State.advance, hl]

/-- A forwarded byte sent moves from the slot to the record; a byte of a response is no forward. -/
theorem DecimatorLedger.exec_txack : ∃ t, exec .txack s = .next t ∧ DecimatorLedger t := by
  cases hv : s.fwdValid with
  | true =>
    exact ⟨_, exec_txack_offer (State.txOffer_full hv),
      h.of_same (by simp) (by simp [Sampler]) (by simp) (by simp) (by simp [forwards, slot, hv])⟩
  | false =>
    have hresponse : ∀ k b, k ≠ .forwarded → DecimatorLedger (s.taken.record (.txack k b)) := fun k b hk =>
      h.of_same (by simp) (by simp [Sampler]) (by simp) (by simp) (by simp [forwards, slot, hv, hk])
    cases hm : s.mode with
    | idle => exact ⟨s, exec_txack_none (State.txOffer_none hv (.inl hm)), h⟩
    | arg => exact ⟨s, exec_txack_none (State.txOffer_none hv (.inr hm)), h⟩
    | dump => exact ⟨_, exec_txack_offer (State.txOffer_dump hv hm), hresponse _ _ nofun⟩
    | hello => exact ⟨_, exec_txack_offer (State.txOffer_hello hv hm), hresponse _ _ nofun⟩

theorem DecimatorLedger.exec_event {i : Instr} (hi : IsEvent i = true) :
    ∃ t, exec i s = .next t ∧ DecimatorLedger t := by
  cases i with
  | tick => exact ⟨_, rfl, h.of_same rfl ⟨rfl, rfl⟩ rfl (by simp) (forwards_eq ⟨rfl, rfl⟩ (by simp))⟩
  | conv r => exact h.exec_conv r
  | rx b => exact h.exec_rx b
  | txack => exact h.exec_txack
  | reset | dump | hello | setduty | nop | dutyarg => cases hi

end Ledger

/-- Settles O10: with `rst` the ledger begins anew, without it every event of the cycle keeps it. -/
theorem decimatorLedgerIsKept : Obligations.DecimatorLedgerIsKept := by
  intro s h
  cases hr : s.inputs.rst with
  | true => exact ⟨_, step_reset hr, decimatorLedger_reset s.params⟩
  | false =>
    exact runOps_keeps (s := s.sampled) (fun i hi u hu => hu.exec_event (cycleOps_isEvent hr i hi)) h

end Sys2Proof.Safety

namespace Sys2Proof.Machine

open Sys2Proof Sys2Proof.Safety Sys2Proof.Frame

/-! ### What moves `dec_count` -/

theorem params_of_exec {i : Instr} {s t : State} (he : exec i s = .next t) : t.params = s.params := by
  obtain ⟨u, hu, hp, -⟩ := exec_surroundings i s
  obtain rfl : t = u := by simpa [he] using hu
  exact hp

/-- R43: nothing but `CONV` and `RESET` writes `reading` or `dec_count`. -/
theorem sampler_of_exec {i : Instr} {s t : State} (hconv : ∀ r, i ≠ .conv r) (hreset : i ≠ .reset)
    (he : exec i s = .next t) : Sampler s t := by
  obtain ⟨u, hu, -, -, hwriter, -⟩ := eachRegisterHasItsWriter i s hreset
  obtain rfl : t = u := by simpa [he] using hu
  by_contra hmoved
  obtain ⟨r, hi⟩ := hwriter (.inl hmoved)
  exact hconv r hi

/-- Below `K` one more, from `K` back to 0 (R72, R73). -/
theorem decCount_of_conv {r : Byte} {s t : State} (he : exec (.conv r) s = .next t) :
    t.decCount = if s.decCount < s.params.K then s.decCount + 1 else 0 := by
  obtain rfl := Host.Outcome.next.inj ((exec_conv_eq r s).symm.trans he)
  have hle := s.decCount_le
  simp only [State.record_decCount, State.notify_decCount, State.setReading_decCount, State.setReading_params]
  split
  · exact Nat.mod_eq_of_lt (by omega)
  · rw [show s.decCount = s.params.K by omega, Nat.mod_self]

theorem countP_isConv_conv (r : Byte) : [Instr.conv r].countP isConv = 1 := rfl

/-- An operation takes `dec_count` up by at most one, and only if it is a conversion. -/
theorem decCount_le_of_exec {i : Instr} {s t : State} (he : exec i s = .next t) :
    t.decCount ≤ s.decCount + [i].countP isConv := by
  by_cases hconv : ∃ r, i = .conv r
  · obtain ⟨r, rfl⟩ := hconv
    rw [decCount_of_conv he, countP_isConv_conv]
    split <;> omega
  by_cases hreset : i = .reset
  · subst hreset
    obtain rfl := Host.Outcome.next.inj he
    exact Nat.zero_le _
  · obtain ⟨-, hcount⟩ := sampler_of_exec (not_exists.mp hconv) hreset he
    omega

/-- With `K` = 0 a conversion that finds the slot empty fills it (R72, R77). -/
theorem slot_of_conv_of_K_zero {r : Byte} {s t : State} (hK : s.params.K = 0) (hv : s.fwdValid = false)
    (he : exec (.conv r) s = .next t) : t.fwdValid = true ∧ t.fwdData = r := by
  obtain rfl := Host.Outcome.next.inj ((exec_conv_eq r s).symm.trans he)
  have hat : s.decCount = s.params.K := Nat.le_antisymm s.decCount_le (hK ▸ Nat.zero_le _)
  simp [State.notify_fwdValid, State.notify_fwdData, hat, hv]

/-- Settles O7: the bound is part of the state's type, the moves are those of `CONV` and of `RESET`. -/
theorem decCountRange : Obligations.DecCountRange := by
  refine ⟨fun p => rfl, fun i s => ?_⟩
  obtain ⟨t, he, hp, -⟩ := exec_surroundings i s
  refine ⟨t, he, t.decCount_le, ?_, fun hconv hreset => ?_, fun hK => ?_, ?_⟩
  · rintro r rfl
    exact decCount_of_conv he
  · exact (sampler_of_exec hconv hreset he).2
  · exact Nat.le_zero.mp (hK ▸ hp ▸ t.decCount_le)
  · rintro hK hv r rfl
    exact slot_of_conv_of_K_zero hK hv he

/-! ### The conversions an overrun needs -/

/-- An operation that cannot take `dec_count` past `K` sets no `ovr`: a forward is made at `K` only (R75). -/
theorem exec_without_overrun {i : Instr} {s : State} (hovr : s.ovr = false)
    (h : s.decCount + [i].countP isConv ≤ s.params.K) : ∃ t, exec i s = .next t ∧ t.ovr = false := by
  obtain ⟨t, he, ht⟩ := exec_ovr i s
  refine ⟨t, he, Bool.eq_false_iff.mpr fun hset => ?_⟩
  obtain ⟨-, hbefore | ⟨r, rfl, hK, -⟩⟩ := ht.mp hset
  · simp [hovr] at hbefore
  · rw [countP_isConv_conv] at h
    omega

theorem runOps_without_overrun {ops : List Instr} {s : State} (hovr : s.ovr = false)
    (h : s.decCount + ops.countP isConv ≤ s.params.K) : ∃ t, runOps ops s = .next t ∧ t.ovr = false := by
  induction ops generalizing s with
  | nil => exact ⟨s, rfl, hovr⟩
  | cons i is ih =>
    rw [← List.singleton_append, List.countP_append] at h
    obtain ⟨t, he, ht⟩ := exec_without_overrun hovr (i := i) (by omega)
    have hcount := decCount_le_of_exec he
    obtain ⟨u, hr, hu⟩ := ih ht (by rw [params_of_exec he]; omega)
    exact ⟨u, (runOps_cons_next he).trans hr, hu⟩

/-- Settles O9: `dec_count`, 0 at first, together with the conversions to come never exceeds `K`. -/
theorem overrunNeedsKPlusOneConversions : Obligations.OverrunNeedsKPlusOneConversions := by
  intro ops s hcount hovr hconvs
  exact runOps_without_overrun hovr (by rwa [hcount, Nat.zero_add, List.countP_eq_length_filter])

/-! ### One conversion -/

theorem conv_mem_cycleOps (r : Byte) (s : State) :
    Instr.conv r ∈ s.cycleOps ↔ s.inputs.convDone = true ∧ s.inputs.rst = false ∧ s.inputs.adcData = r := by
  cases hr : s.inputs.rst with
  | true => simp [State.cycleOps, decodeCycle_reset _ _ hr]
  | false => simp [cycleOps_of_no_reset hr, @eq_comm _ r]

/-- Settles O6: the reading is latched in every case, and what the decimator then does turns on `dec_count` and on the slot. -/
theorem convLatchesAndDecimates : Obligations.ConvLatchesAndDecimates := by
  intro r s
  have he := exec_conv_eq r s
  have hcount := decCount_of_conv he
  refine ⟨⟨_, he, by simp, fun hK => ?_, fun hK => ?_, fun hK hv => ?_, fun hK hv => ?_,
    by simp, ?_⟩, conv_mem_cycleOps r s⟩
  · have hbelow : s.decCount < s.params.K := Nat.lt_of_le_of_ne s.decCount_le hK
    rw [hcount, if_pos hbelow]
    have hnotify := State.notify_below (s := s.setReading r) r hK
    exact ⟨rfl, hbelow, by simp [Slot, hnotify], by simp [hnotify]⟩
  · rw [hcount, if_neg hK.not_lt]
  · simp [State.notify_fwdValid, State.notify_fwdData, State.notify_ovr, hK, hv]
  · simp [Slot, State.notify_fwdValid, State.notify_fwdData, State.notify_ovr, hK, hv]
  · simp [OutsideDecimator, Surroundings, Pwm, Sequencing]

end Sys2Proof.Machine
end

section
/-! SUPPORT. Proofs of the statements of spec/42_dispatcher.md: the operations a received byte can be (R81 to R86), the bytes of a
response (R82, R83, R87, R88), the table of transitions (R80), and what a cycle does to the dispatcher (R84, R85, R89, R90). -/

namespace Sys2Proof.Machine

open Sys2Proof Sys2Proof.Safety Sys2Proof.Frame

/-! ### The operations a received byte can be -/

/-- What a received byte is read as does nothing outside the mode it is read in (assumption 4). -/
theorem exec_received_not_enabled (c : Received) {s : State} (h : ¬ Enabled c.toInstr s) :
    exec c.toInstr s = .next s := by
  cases c <;> exact congrArg Host.Outcome.next (if_neg h)

/-- It writes `setpoint`, `mode` and `idx` only. -/
theorem outsideDispatcher_of_received (c : Received) {s t : State} (he : exec c.toInstr s = .next t) :
    OutsideDispatcher s t := by
  obtain ⟨u, hu, hout, -⟩ := exec_received_writes c s
  obtain rfl : t = u := by simpa [he] using hu
  exact hout

/-- In `IDLE` a received byte is the operation the command map gives it (R81). -/
theorem exec_rx_idle {s : State} (hm : s.mode = .idle) (b : Byte) :
    exec (.rx b) s = exec (decodeCmd b).toInstr s := by
  rw [exec_rx_ready b ((rxReady_iff s).mpr (.inl hm)), received_idle b hm]

theorem rxReady_eq_false {s : State} (hm : s.mode = .dump ∨ s.mode = .hello) : s.rxReady = false := by
  rcases hm with hm | hm <;> simp [State.rxReady, hm]

/-- Settles O19: the commands and the operand by `exec_received_not_enabled`, the two handshakes by their own lemmas. -/
theorem noHandshakeNoEffect : Obligations.NoHandshakeNoEffect := fun _ =>
  ⟨fun h => ⟨exec_received_not_enabled .dump h, exec_received_not_enabled .hello h,
      exec_received_not_enabled .setduty h, fun b => exec_received_not_enabled (.nop b) h⟩,
    fun h d => exec_received_not_enabled (.dutyarg d) h, fun h b => exec_rx_not_ready b h, exec_txack_not_valid⟩

/-- Settles O15: the record is all that `NOP` writes, and no output shows it. -/
theorem nopOnlyConsumesItsByte : Obligations.NopOnlyConsumesItsByte := fun b s hm _ =>
  ⟨_, exec_nop_idle b hm, ⟨rfl, ⟨rfl, rfl⟩, ⟨rfl, rfl⟩, ⟨rfl, rfl⟩, rfl, rfl, rfl⟩, Surroundings.refl s, rfl, rfl⟩

theorem rx_mem_cycleOps (b : Byte) (s : State) :
    Instr.rx b ∈ s.cycleOps ↔ s.inputs.rxValid = true ∧ (s.mode = .idle ∨ s.mode = .arg) ∧ s.inputs.rst = false
      ∧ s.inputs.rxData = b := by
  cases hr : s.inputs.rst with
  | true => simp [State.cycleOps, decodeCycle_reset _ _ hr]
  | false => simp [cycleOps_of_no_reset hr, and_assoc, @eq_comm _ b]

/-- Settles O16: in `IDLE` by the cases of a command byte, in `ARG` because every byte is the operand. -/
theorem rxDecodesByMode : Obligations.RxDecodesByMode := by
  intro b s
  refine ⟨fun hm => ?_, fun hm => ?_, rx_mem_cycleOps b s⟩
  · rw [exec_rx_idle hm]
    rcases decodeCmd_cases b with ⟨rfl, hb⟩ | ⟨rfl, hb⟩ | ⟨rfl, hb⟩ | ⟨h1, h2, h3, hb⟩
    · rfl
    · rfl
    · rfl
    · rw [hb, if_neg h1, if_neg h2, if_neg h3]
      rfl
  · rw [exec_rx_operand hm, exec_dutyarg_arg b hm]

/-- The byte taken in `IDLE`: the record, and where the dispatcher goes (R80). -/
theorem exec_rx_command {s : State} (hm : s.mode = .idle) (b : Byte) :
    ∃ t, exec (.rx b) s = .next t ∧ t.trace = s.trace ++ [.rx b] ∧ t.setpoint = s.setpoint
      ∧ t.mode = (if b = 0x01 then .dump else if b = 0x02 then .hello else if b = 0x03 then .arg else .idle)
      ∧ t.idx = (if b = 0x01 then s.params.burstLen else 0)
      ∧ OutsideDispatcher s t := by
  rw [exec_rx_idle hm]
  rcases decodeCmd_cases b with ⟨rfl, hb⟩ | ⟨rfl, hb⟩ | ⟨rfl, hb⟩ | ⟨h1, h2, h3, hb⟩ <;> rw [hb]
  · exact ⟨_, exec_dump_idle hm, rfl, rfl, rfl, rfl, outsideDispatcher_of_received .dump (exec_dump_idle hm)⟩
  · exact ⟨_, exec_hello_idle hm, rfl, rfl, rfl, rfl, outsideDispatcher_of_received .hello (exec_hello_idle hm)⟩
  · exact ⟨_, exec_setduty_idle hm, rfl, rfl, rfl, rfl, outsideDispatcher_of_received .setduty (exec_setduty_idle hm)⟩
  · refine ⟨_, exec_nop_idle b hm, rfl, rfl, ?_, ?_, outsideDispatcher_of_received (.nop b) (exec_nop_idle b hm)⟩
    · rw [if_neg h1, if_neg h2, if_neg h3]
      exact hm
    · rw [if_neg h1]
      exact State.idx_of_idle hm

/-- Settles O17, by the two modes in which the dispatcher is ready. -/
theorem rxTakesOneByte : Obligations.RxTakesOneByte := by
  intro b s hr
  rcases (rxReady_iff s).mp hr with hm | hm
  · obtain ⟨t, he, htrace, hset, hmode, hidx, hout⟩ := exec_rx_command hm b
    exact ⟨t, he, htrace, by simp [hset, hm], by simp [hmode, hm], by simp [hidx, hm], hout⟩
  · exact ⟨_, exec_rx_operand hm b, rfl, by simp [hm], by simp [hm], by simp [hm],
      outsideDispatcher_of_received (.dutyarg b) (exec_dutyarg_arg b hm)⟩

/-! ### The bytes of a response -/

/-- The bytes the dispatcher has still to send of the response under way (R87, R88), as an observer will record them. -/
def State.dueLines (s : State) : List TraceLine :=
  match s.mode with
  | .dump => (List.replicate s.idx s.reading).map (.txack .burst)
  | .hello => (s.params.greeting.drop s.idx).map (.txack .greeting)
  | .idle => []
  | .arg => []

/-- What the bytes of a response leave unchanged: all but `mode`, `idx` and the record. -/
def OutsideSequencing (s t : State) : Prop := OutsideDispatcher s t ∧ t.setpoint = s.setpoint

theorem OutsideSequencing.refl (s : State) : OutsideSequencing s s :=
  ⟨⟨⟨rfl, rfl, rfl⟩, ⟨rfl, rfl⟩, ⟨rfl, rfl⟩, ⟨rfl, rfl⟩, rfl⟩, rfl⟩

theorem OutsideSequencing.trans {s t u : State} (h : OutsideSequencing s t) (h' : OutsideSequencing t u) :
    OutsideSequencing s u := by
  obtain ⟨⟨hsur, ⟨hphase, hpin⟩, ⟨hreading, hcount⟩, ⟨hvalid, hdata⟩, hovr⟩, hset⟩ := h
  obtain ⟨⟨hsur', ⟨hphase', hpin'⟩, ⟨hreading', hcount'⟩, ⟨hvalid', hdata'⟩, hovr'⟩, hset'⟩ := h'
  exact ⟨⟨hsur.trans hsur', ⟨hphase'.trans hphase, hpin'.trans hpin⟩,
    ⟨hreading'.trans hreading, hcount'.trans hcount⟩, ⟨hvalid'.trans hvalid, hdata'.trans hdata⟩,
    hovr'.trans hovr⟩, hset'.trans hset⟩

theorem OutsideSequencing.fwdValid {s t : State} (h : OutsideSequencing s t) : t.fwdValid = s.fwdValid := by
  obtain ⟨⟨-, -, -, ⟨hvalid, -⟩, -⟩, -⟩ := h
  exact hvalid

theorem outsideSequencing_taken {s : State} (hv : s.fwdValid = false) (l : TraceLine) :
    OutsideSequencing s (s.taken.record l) := by
  simp [OutsideSequencing, OutsideDispatcher, Surroundings, Pwm, Sampler, Slot, hv]

section Response

variable {s : State}

theorem dueLines_dump (hm : s.mode = .dump) :
    s.dueLines = (List.replicate s.idx s.reading).map (.txack .burst) := by
  simp only [State.dueLines, hm]

theorem dueLines_hello (hm : s.mode = .hello) :
    s.dueLines = (s.params.greeting.drop s.idx).map (.txack .greeting) := by
  simp only [State.dueLines, hm]

/-- In a response there is always a byte to send. -/
theorem idle_of_nothing_due (hm : s.mode ≠ .arg) (h : s.dueLines = []) : s.mode = .idle := by
  cases hmode : s.mode with
  | idle => rfl
  | arg => exact absurd hmode hm
  | dump =>
    have := State.idx_of_dump hmode
    simp only [dueLines_dump hmode, List.map_eq_nil_iff, List.replicate_eq_nil_iff] at h
    omega
  | hello =>
    have := State.idx_of_hello hmode
    simp only [dueLines_hello hmode, List.map_eq_nil_iff, List.drop_eq_nil_iff] at h
    omega

variable (hv : s.fwdValid = false)
include hv

/-- A burst byte sent is the first of those due (R87). -/
theorem dueLines_of_burstTaken (hm : s.mode = .dump) :
    s.dueLines = .txack .burst s.reading :: s.taken.dueLines ∧ s.taken.mode ≠ .arg := by
  have hidx := State.idx_of_dump hm
  rw [dueLines_dump hm]
  by_cases hi : s.idx = 1
  · rw [State.taken_dump_last hv hm hi, hi]
    exact ⟨rfl, nofun⟩
  · obtain ⟨n, hn⟩ : ∃ n, s.idx = n + 1 := ⟨s.idx - 1, by omega⟩
    rw [State.taken_dump_more hv hm hi, dueLines_dump rfl]
    simp [hn, List.replicate_succ]

/-- A greeting byte sent is the first of those due (R88). -/
theorem dueLines_of_greetingTaken (hm : s.mode = .hello) :
    s.dueLines = .txack .greeting (s.params.greeting[s.idx]'(State.idx_of_hello hm)) :: s.taken.dueLines
      ∧ s.taken.mode ≠ .arg := by
  rw [dueLines_hello hm, List.drop_eq_getElem_cons (State.idx_of_hello hm)]
  by_cases hi : s.idx = s.params.greetLen - 1
  · have hend : s.params.greeting.drop (s.idx + 1) = [] :=
      List.drop_eq_nil_of_le (by unfold Params.greetLen at hi; omega)
    rw [State.taken_hello_last hv hm hi, hend]
    exact ⟨rfl, nofun⟩
  · rw [State.taken_hello_more hv hm hi, dueLines_hello rfl]
    exact ⟨rfl, nofun⟩

/-- With the slot empty, a `TXACK` sends the first byte due. -/
theorem exec_txack_due {l : TraceLine} {ls : List TraceLine} (hdue : s.dueLines = l :: ls) :
    ∃ t, exec .txack s = .next t ∧ t.mode ≠ .arg ∧ t.dueLines = ls ∧ t.trace = s.trace ++ [l]
      ∧ OutsideSequencing s t := by
  have hsent : ∀ k b, s.txOffer = some (k, b) →
      s.dueLines = .txack k b :: s.taken.dueLines ∧ s.taken.mode ≠ .arg →
      ∃ t, exec .txack s = .next t ∧ t.mode ≠ .arg ∧ t.dueLines = ls ∧ t.trace = s.trace ++ [l]
        ∧ OutsideSequencing s t := by
    rintro k b ho ⟨hlines, harg⟩
    obtain ⟨rfl, rfl⟩ := List.cons.inj (hdue.symm.trans hlines)
    exact ⟨_, exec_txack_offer ho, harg, rfl, by simp, outsideSequencing_taken hv _⟩
  cases hm : s.mode with
  | dump => exact hsent _ _ (State.txOffer_dump hv hm) (dueLines_of_burstTaken hv hm)
  | hello => exact hsent _ _ (State.txOffer_hello hv hm) (dueLines_of_greetingTaken hv hm)
  | idle | arg => simp [State.dueLines, hm] at hdue

end Response

/-- With the slot empty, as many `TXACK`s as there are bytes due send them in order and end in `IDLE` (R91). -/
theorem runOps_txacks_due {l : List TraceLine} {s : State} (hv : s.fwdValid = false) (hm : s.mode ≠ .arg)
    (hdue : s.dueLines = l) :
    ∃ t, runOps (List.replicate l.length .txack) s = .next t ∧ t.mode = .idle ∧ t.trace = s.trace ++ l
      ∧ OutsideSequencing s t := by
  induction l generalizing s with
  | nil => exact ⟨s, rfl, idle_of_nothing_due hm hdue, by simp, OutsideSequencing.refl s⟩
  | cons x xs ih =>
    obtain ⟨t, he, hmt, hduet, htrace, hout⟩ := exec_txack_due hv hdue
    obtain ⟨u, hr, hmu, htrace', hout'⟩ := ih (hout.fwdValid.trans hv) hmt hduet
    exact ⟨u, (runOps_cons_next he).trans hr, hmu, by simp [htrace', htrace], hout.trans hout'⟩

theorem runOps_burst {s : State} (hv : s.fwdValid = false) (hm : s.mode = .dump) :
    ∃ t, runOps (List.replicate s.idx .txack) s = .next t ∧ t.mode = .idle
      ∧ t.trace = s.trace ++ (List.replicate s.idx s.reading).map (.txack .burst) ∧ OutsideSequencing s t := by
  simpa using runOps_txacks_due hv (by simp [hm]) (dueLines_dump hm)

theorem runOps_greeting {s : State} (hv : s.fwdValid = false) (hm : s.mode = .hello) :
    ∃ t, runOps (List.replicate (s.params.greetLen - s.idx) .txack) s = .next t ∧ t.mode = .idle
      ∧ t.trace = s.trace ++ (s.params.greeting.drop s.idx).map (.txack .greeting) ∧ OutsideSequencing s t := by
  simpa [Params.greetLen] using runOps_txacks_due hv (by simp [hm]) (dueLines_hello hm)

theorem sentBytes_map_txack (k : TxKind) (bytes : List Byte) : sentBytes (bytes.map (.txack k)) = bytes := by
  induction bytes with
  | nil => rfl
  | cons b bs ih => simp [ih]

/-- Settles O22: the burst and the greeting by `runOps_burst` and `runOps_greeting`, the operand by `exec_rx_operand`. -/
theorem dispatcherReturnsToIdle : Obligations.DispatcherReturnsToIdle := by
  refine fun s => ⟨fun hm hv => ?_, fun hm hv => ?_, fun hm b => ⟨_, exec_rx_operand hm b, rfl⟩⟩
  · obtain ⟨t, hr, hmt, htrace, ⟨-, hpwm, hsampler, hslot, hovr⟩, hset⟩ := runOps_burst hv hm
    exact ⟨t, hr, hmt, by simpa using htrace, hset, hpwm, hsampler, hslot, hovr⟩
  · obtain ⟨t, hr, hmt, htrace, ⟨-, hpwm, hsampler, hslot, hovr⟩, hset⟩ := runOps_greeting hv hm
    exact ⟨t, hr, hmt, htrace, hset, hpwm, hsampler, hslot, hovr⟩

/-- Settles O11: the state after `DUMP`, then the whole burst by `runOps_burst`. -/
theorem dumpStartsTheBurst : Obligations.DumpStartsTheBurst := by
  intro s hm
  refine ⟨_, exec_dump_idle hm, rfl, rfl, by simp [State.txValid], fun hv => ?_, rfl, rfl,
    outsideDispatcher_of_received .dump (exec_dump_idle hm), fun hv => ?_⟩
  · have ho := State.txOffer_dump (s := s.startBurst.record (.rx cmdDump)) hv rfl
    exact congrArg (Option.map Prod.snd) ho
  · obtain ⟨u, hr, hmu, htrace, -⟩ := runOps_burst (s := s.startBurst.record (.rx cmdDump)) hv rfl
    exact ⟨u, hr, hmu, by simp [htrace, sentBytes_map_txack, -List.map_replicate]⟩

/-- Settles O12: the state after `HELLO`, then the whole greeting by `runOps_greeting`. -/
theorem helloStartsTheGreeting : Obligations.HelloStartsTheGreeting := by
  intro s hm
  refine ⟨_, exec_hello_idle hm, rfl, rfl, by simp [State.txValid], fun hv => ?_, rfl, rfl,
    outsideDispatcher_of_received .hello (exec_hello_idle hm), fun hv => ?_⟩
  · have ho := State.txOffer_hello (s := s.startGreeting.record (.rx cmdHello)) hv rfl
    simp [State.outputs, ho, List.head?_eq_getElem?]
  · obtain ⟨u, hr, hmu, htrace, -⟩ := runOps_greeting (s := s.startGreeting.record (.rx cmdHello)) hv rfl
    exact ⟨u, hr, hmu, by simp [htrace, sentBytes_map_txack]⟩

/-! ### The table of transitions -/

/-- The operations that leave `mode` and `idx` alone, `NOP` in `IDLE` apart: those that are not the dispatcher's, a `TXACK` that is
not its byte, and those outside their handshake (assumption 4). -/
def StaysPut (i : Instr) (s : State) : Prop :=
  i = .tick ∨ (∃ r, i = .conv r)
    ∨ (i = .txack ∧ (s.fwdValid = true ∨ s.mode = .idle ∨ s.mode = .arg))
    ∨ ((i = .dump ∨ i = .hello ∨ i = .setduty ∨ ∃ b, i = .nop b) ∧ s.mode ≠ .idle)
    ∨ ((∃ d, i = .dutyarg d) ∧ s.mode ≠ .arg)
    ∨ ((∃ b, i = .rx b) ∧ s.mode ≠ .idle ∧ s.mode ≠ .arg)

/-- R80's table, for an operation that takes `s` to `t`: its nine rows, and the case of no row. -/
def InTable (i : Instr) (s t : State) : Prop :=
  (s.mode = .idle ∧ (i = .dump ∨ i = .rx 0x01) ∧ t.mode = .dump ∧ t.idx = s.params.burstLen)
    ∨ (s.mode = .idle ∧ (i = .hello ∨ i = .rx 0x02) ∧ t.mode = .hello ∧ t.idx = 0)
    ∨ (s.mode = .idle ∧ (i = .setduty ∨ i = .rx 0x03) ∧ t.mode = .arg ∧ t.idx = s.idx)
    ∨ (s.mode = .idle ∧ (∃ b, (i = .nop b ∨ i = .rx b) ∧ b ≠ 0x01 ∧ b ≠ 0x02 ∧ b ≠ 0x03) ∧ Sequencing s t)
    ∨ (s.mode = .arg ∧ (∃ d, (i = .dutyarg d ∨ i = .rx d) ∧ t.setpoint = d) ∧ t.mode = .idle ∧ t.idx = s.idx)
    ∨ (s.mode = .dump ∧ i = .txack ∧ s.fwdValid = false ∧ 1 < s.idx ∧ t.mode = .dump ∧ t.idx + 1 = s.idx)
    ∨ (s.mode = .dump ∧ i = .txack ∧ s.fwdValid = false ∧ s.idx = 1 ∧ t.mode = .idle ∧ t.idx = 0)
    ∨ (s.mode = .hello ∧ i = .txack ∧ s.fwdValid = false ∧ s.idx < s.params.greetLen - 1
        ∧ t.mode = .hello ∧ t.idx = s.idx + 1)
    ∨ (s.mode = .hello ∧ i = .txack ∧ s.fwdValid = false ∧ s.idx = s.params.greetLen - 1
        ∧ t.mode = .idle ∧ t.idx = 0)
    ∨ (Sequencing s t ∧ StaysPut i s)

theorem StaysPut.inTable {i : Instr} {s t : State} (h : StaysPut i s) (hseq : Sequencing s t) : InTable i s t :=
  .inr (.inr (.inr (.inr (.inr (.inr (.inr (.inr (.inr ⟨hseq, h⟩))))))))

/-- A byte taken by the transport: nothing moves while the slot goes first or nothing is offered, else the response goes on by
one byte (R87, R88). -/
theorem inTable_txack (s : State) : ∃ t, exec .txack s = .next t ∧ InTable .txack s t := by
  cases hv : s.fwdValid with
  | true =>
    have hstays : StaysPut .txack s := by simp [StaysPut, hv]
    exact ⟨_, exec_txack_offer (State.txOffer_full hv), hstays.inTable (by simp [Sequencing, State.taken_full hv])⟩
  | false =>
    cases hm : s.mode with
    | idle | arg =>
      have hwait : s.mode = .idle ∨ s.mode = .arg := by simp [hm]
      have hstays : StaysPut .txack s := .inr (.inr (.inl ⟨rfl, .inr hwait⟩))
      exact ⟨s, exec_txack_none (State.txOffer_none hv hwait), hstays.inTable ⟨rfl, rfl⟩⟩
    | dump =>
      have hidx := State.idx_of_dump hm
      refine ⟨_, exec_txack_offer (State.txOffer_dump hv hm), ?_⟩
      by_cases hi : s.idx = 1
      · simp [InTable, State.taken_dump_last hv hm hi, hv, hm, hi]
      · have hmore : 1 < s.idx ∧ s.idx - 1 + 1 = s.idx := by omega
        simp [InTable, State.taken_dump_more hv hm hi, hv, hm, hmore]
    | hello =>
      have hidx : s.idx < s.params.greetLen := State.idx_of_hello hm
      refine ⟨_, exec_txack_offer (State.txOffer_hello hv hm), ?_⟩
      by_cases hi : s.idx = s.params.greetLen - 1
      · simp [InTable, State.taken_hello_last hv hm hi, hv, hm, hi]
      · have hmore : s.idx < s.params.greetLen - 1 := by omega
        simp [InTable, State.taken_hello_more hv hm hi, hv, hm, hmore]

/-- A received byte in the mode that takes it, by the table's rows for the byte. -/
theorem inTable_rx (b : Byte) (s : State) : ∃ t, exec (.rx b) s = .next t ∧ InTable (.rx b) s t := by
  cases hm : s.mode with
  | idle =>
    have hidx := State.idx_of_idle hm
    rw [exec_rx_idle hm]
    rcases decodeCmd_cases b with ⟨rfl, hb⟩ | ⟨rfl, hb⟩ | ⟨rfl, hb⟩ | ⟨h1, h2, h3, hb⟩ <;> rw [hb]
    · exact ⟨_, exec_dump_idle hm, by simp [InTable, hm]⟩
    · exact ⟨_, exec_hello_idle hm, by simp [InTable, hm]⟩
    · exact ⟨_, exec_setduty_idle hm, by simp [InTable, hm, hidx]⟩
    · exact ⟨_, exec_nop_idle b hm, .inr (.inr (.inr (.inl ⟨hm, ⟨b, .inr rfl, h1, h2, h3⟩, rfl, rfl⟩)))⟩
  | arg => exact ⟨_, exec_rx_operand hm b, by simp [InTable, hm, State.idx_of_arg hm]⟩
  | dump | hello =>
    have hready : s.rxReady = false := rxReady_eq_false (by simp [hm])
    have hstays : StaysPut (.rx b) s := by simp [StaysPut, hm]
    exact ⟨s, exec_rx_not_ready b hready, hstays.inTable ⟨rfl, rfl⟩⟩

/-- What a received byte is read as: its row in the mode it is read in, no change elsewhere. -/
theorem inTable_received {c : Received} (hwf : WellFormed c.toInstr = true) (s : State) :
    ∃ t, exec c.toInstr s = .next t ∧ InTable c.toInstr s t := by
  by_cases hen : Enabled c.toInstr s
  · cases c with
    | dump => exact ⟨_, exec_dump_idle hen, .inl ⟨hen, .inl rfl, rfl, rfl⟩⟩
    | hello => exact ⟨_, exec_hello_idle hen, .inr (.inl ⟨hen, .inl rfl, rfl, rfl⟩)⟩
    | setduty =>
      exact ⟨_, exec_setduty_idle hen, .inr (.inr (.inl ⟨hen, .inl rfl, rfl, (State.idx_of_idle hen).symm⟩))⟩
    | nop b =>
      simp only [Received.toInstr, WellFormed, Bool.and_eq_true, bne_iff_ne] at hwf
      obtain ⟨⟨h1, h2⟩, h3⟩ := hwf
      exact ⟨_, exec_nop_idle b hen, .inr (.inr (.inr (.inl ⟨hen, ⟨b, .inl rfl, h1, h2, h3⟩, rfl, rfl⟩)))⟩
    | dutyarg d =>
      exact ⟨_, exec_dutyarg_arg d hen,
        .inr (.inr (.inr (.inr (.inl ⟨hen, ⟨d, .inl rfl, rfl⟩, rfl, (State.idx_of_arg hen).symm⟩))))⟩
  · have hstays : StaysPut c.toInstr s := by
      cases c <;> simpa [StaysPut, Received.toInstr, Enabled] using hen
    exact ⟨s, exec_received_not_enabled c hen, hstays.inTable ⟨rfl, rfl⟩⟩

/-- Settles O18, operation by operation. -/
theorem dispatcherTransitionsAreExactlyTheTable : Obligations.DispatcherTransitionsAreExactlyTheTable := by
  intro i s hwf hreset
  cases i with
  | tick => exact ⟨_, rfl, StaysPut.inTable (.inl rfl) ⟨rfl, rfl⟩⟩
  | conv r => exact ⟨_, rfl, StaysPut.inTable (.inr (.inl ⟨r, rfl⟩)) (by simp [Sequencing])⟩
  | rx b => exact inTable_rx b s
  | txack => exact inTable_txack s
  | reset => exact absurd rfl hreset
  | dump => exact inTable_received (c := .dump) hwf s
  | hello => exact inTable_received (c := .hello) hwf s
  | setduty => exact inTable_received (c := .setduty) hwf s
  | nop b => exact inTable_received (c := .nop b) hwf s
  | dutyarg d => exact inTable_received (c := .dutyarg d) hwf s

/-! ### A cycle of the dispatcher -/

section Cycle

variable {p : Params} (b : Block p) (inp : Inputs)

/-- A byte is offered, and the transport takes it. -/
def Block.sends : Bool := (b.fwdValid || decide (b.mode = .dump) || decide (b.mode = .hello)) && inp.txReady

/-- The block when the received byte is looked at: `b3` of R44. -/
def Block.beforeRx : Block p :=
  let b1 := if b.sends inp then b.txack else b
  let b2 := if inp.tick then b1.tick else b1
  if inp.convDone then b2.conv inp.adcData else b2

/-- R44's last line: the byte is taken if the dispatcher was ready for it before the edge. -/
theorem Block.step_eq_rx {inp : Inputs} (h : inp.rst = false) :
    b.step inp = if inp.rxValid && (decide (b.mode = .idle) || decide (b.mode = .arg))
      then (b.beforeRx inp).rx inp.rxData else b.beforeRx inp := by
  unfold Block.step
  rw [h]
  rfl

@[simp] theorem Block.beforeRx_setpoint : (b.beforeRx inp).setpoint = b.setpoint := by
  simp [Block.beforeRx, apply_ite Block.setpoint, Block.tick]

@[simp] theorem Block.beforeRx_phase :
    (b.beforeRx inp).phase = if inp.tick then b.phase + 1 else b.phase := by
  simp [Block.beforeRx, apply_ite Block.phase, Block.tick]

@[simp] theorem Block.beforeRx_reading :
    (b.beforeRx inp).reading = if inp.convDone then inp.adcData else b.reading := by
  simp [Block.beforeRx, apply_ite Block.reading, Block.tick]

/-- Before the byte only the transport moves the dispatcher. -/
theorem Block.beforeRx_mode : (b.beforeRx inp).mode = if b.sends inp then b.txack.mode else b.mode := by
  simp [Block.beforeRx, apply_ite Block.mode]

theorem Block.beforeRx_mode_waiting {b : Block p} (hm : b.mode = .idle ∨ b.mode = .arg) :
    (b.beforeRx inp).mode = b.mode := by
  rw [Block.beforeRx_mode, Block.txack_mode hm, ite_self]

/-- In `ARG` a received byte is the operand (R85). -/
theorem Block.rx_operand {b : Block p} (d : Byte) (hm : b.mode = .arg) : (b.rx d).setpoint = d := by
  simp only [Block.rx, hm]

/-- A cycle in which no byte is taken. -/
theorem Block.step_without_rx {b : Block p} {inp : Inputs} (h : inp.rst = false)
    (hrx : inp.rxValid = false ∨ b.mode = .dump ∨ b.mode = .hello) : b.step inp = b.beforeRx inp := by
  rw [Block.step_eq_rx b h, if_neg]
  rcases hrx with hrx | hm | hm <;> simp [*]

/-- R89: without `RESET` only a byte taken in `ARG` is stored. -/
theorem Block.step_setpoint {inp : Inputs} (h : inp.rst = false) :
    (b.step inp).setpoint = if inp.rxValid = true ∧ b.mode = .arg then inp.rxData else b.setpoint := by
  cases hrx : inp.rxValid with
  | false => simp [Block.step_without_rx h (.inl hrx)]
  | true =>
    cases hm : b.mode with
    | dump => simp [Block.step_without_rx h (.inr (.inl hm))]
    | hello => simp [Block.step_without_rx h (.inr (.inr hm))]
    | idle =>
      have hwait := Block.beforeRx_mode_waiting inp (.inl hm)
      simp [Block.step_eq_rx b h, hrx, hm, Block.rx_setpoint, hwait]
    | arg =>
      have hwait := Block.beforeRx_mode_waiting inp (.inr hm)
      simp [Block.step_eq_rx b h, hrx, hm, Block.rx_operand, hwait]

end Cycle

/-- Settles O20: with `rst` the reset value, without it `Block.step_setpoint`. -/
theorem dispatcherIsTheSoleWriterOfSetpoint : Obligations.DispatcherIsTheSoleWriterOfSetpoint := by
  intro s
  cases h : s.inputs.rst with
  | true => exact ⟨_, step_reset h, rfl⟩
  | false => exact ⟨_, step_advance h, s.block.step_setpoint h⟩

/-- The last byte of a response takes the dispatcher back to `IDLE` (R87, R88). -/
theorem block_txack_mode_last {s : State} (hv : s.fwdValid = false)
    (hlast : s.mode = .dump ∧ s.idx = 1 ∨ s.mode = .hello ∧ s.idx = s.params.greetLen - 1) :
    s.block.txack.mode = .idle := by
  have hblock : s.block.txack.mode = s.taken.mode := (congrArg State.mode (taken_eq_withBlock s)).symm
  rcases hlast with ⟨hm, hi⟩ | ⟨hm, hi⟩
  · rw [hblock, State.taken_dump_last hv hm hi]
    rfl
  · rw [hblock, State.taken_hello_last hv hm hi]
    rfl

/-- Settles O21: no byte is taken, so the cycle leaves the dispatcher where the transport takes it. -/
theorem oneCommandAtATime : Obligations.OneCommandAtATime := by
  intro s hm
  have hready : s.outputs.rxReady = false := rxReady_eq_false hm
  refine ⟨hready, ?_⟩
  cases h : s.inputs.rst with
  | true => exact ⟨_, step_reset h, nofun, nofun⟩
  | false =>
    refine ⟨_, step_advance h, fun _ => ?_, fun _ htx hv hlast => ?_⟩
    · simpa [hready] using step_receivedBytes h (step_advance h)
    · have hsends : s.block.sends s.inputs = true := by rcases hm with hm | hm <;> simp [Block.sends, hm, htx]
      have hmode : (s.block.step s.inputs).mode = .idle := by
        rw [Block.step_without_rx h (.inr hm), Block.beforeRx_mode, if_pos hsends, block_txack_mode_last hv hlast]
      exact ⟨hmode, (rxReady_iff _).mpr (.inl hmode)⟩

/-- Outside a response only the slot has a byte to offer. -/
theorem txValid_of_waiting {s : State} (hm : s.mode = .idle ∨ s.mode = .arg) : s.txValid = s.fwdValid := by
  rcases hm with hm | hm <;> simp [State.txValid, hm]

/-- Settles O13: a cycle without a byte leaves the dispatcher waiting, whatever else happens in it. -/
theorem setdutyAwaitsItsOperand : Obligations.SetdutyAwaitsItsOperand := by
  refine ⟨fun s hm h hrx => ?_, fun s hm => ?_⟩
  · have hstep : s.block.step s.inputs = s.block.beforeRx s.inputs := Block.step_without_rx h (.inl hrx)
    have hmode : (s.block.step s.inputs).mode = .arg := by
      rw [hstep, Block.beforeRx_mode_waiting s.inputs (.inr hm)]
      exact hm
    refine ⟨_, step_advance h, hmode, (rxReady_iff _).mpr (.inr hmode), ?_, txValid_of_waiting (.inr hmode),
      fun htick => ?_, fun hconv => ?_⟩
    · exact (congrArg Block.setpoint hstep).trans (s.block.beforeRx_setpoint s.inputs)
    · exact (congrArg Block.phase hstep).trans (by simp [htick])
    · exact (congrArg Block.reading hstep).trans (by simp [hconv])
  · exact ⟨_, exec_setduty_idle hm, rfl, rfl, rfl, txValid_of_waiting (.inr rfl), rfl, rfl,
      outsideDispatcher_of_received .setduty (exec_setduty_idle hm)⟩

/-- Settles O14: the operand is stored, and a tick compares with what is stored when it happens. -/
theorem dutyargStoresTheSetpoint : Obligations.DutyargStoresTheSetpoint := by
  refine ⟨fun s hm h hrx htick => ⟨_, step_advance h, ?_, s.block.step_pwmOut h htick⟩, fun d s hm =>
    ⟨_, exec_dutyarg_arg d hm, rfl, rfl, rfl, rfl, outsideDispatcher_of_received (.dutyarg d) (exec_dutyarg_arg d hm),
      _, rfl, comparator_eq s.phase d⟩⟩
  exact (s.block.step_setpoint h).trans (if_pos ⟨hrx, hm⟩)

end Sys2Proof.Machine
end

section
/-! SUPPORT. Proofs of the statements of spec/43_txport.md: what the port offers (R96, R102), what `TXACK` takes from it (R97),
and how long an offer stands (R98, R100). -/

namespace Sys2Proof.Machine

open Sys2Proof Sys2Proof.Safety Sys2Proof.Frame

/-! ### What the port offers -/

/-- The port shows the offered byte, and that there is one (R26). -/
theorem outputs_of_offer {s : State} {k : TxKind} {b : Byte} (ho : s.txOffer = some (k, b)) :
    s.outputs.txValid = true ∧ s.outputs.txData = some b := by
  simp [State.outputs, State.txValid_eq_isSome, ho]

theorem outputs_of_no_offer {s : State} (ho : s.txOffer = none) :
    s.outputs.txValid = false ∧ s.outputs.txData = none := by
  simp [State.outputs, State.txValid_eq_isSome, ho]

/-- A byte is offered with the slot empty only in a response. -/
theorem response_of_txValid {s : State} (hv : s.fwdValid = false) (h : s.txValid = true) :
    s.mode = .dump ∨ s.mode = .hello := by
  simpa [State.txValid, hv] using h

/-- Settles O25, by the offer of each source. -/
theorem forwardSlotGoesFirst : Obligations.ForwardSlotGoesFirst := fun _ =>
  ⟨fun hv => outputs_of_offer (State.txOffer_full hv), fun hv hm => outputs_of_offer (State.txOffer_dump hv hm),
    fun hv hm =>
      have ⟨hvalid, hdata⟩ := outputs_of_offer (State.txOffer_hello hv hm)
      ⟨hvalid, State.idx_of_hello hm, hdata⟩,
    fun hv hm => outputs_of_no_offer (State.txOffer_none hv hm)⟩

/-! ### What a handshake takes -/

theorem txack_mem_cycleOps (s : State) :
    Instr.txack ∈ s.cycleOps ↔ s.txValid = true ∧ s.inputs.txReady = true ∧ s.inputs.rst = false := by
  cases hr : s.inputs.rst with
  | true => simp [State.cycleOps, decodeCycle_reset _ _ hr]
  | false => simp [cycleOps_of_no_reset hr]

/-- Settles O26: the kind and the byte are those of the offer, and the source that made the offer moves on. -/
theorem txackTransfersTheOfferedByte : Obligations.TxackTransfersTheOfferedByte := by
  refine fun s => ⟨fun hvalid => ?_, txack_mem_cycleOps s⟩
  obtain ⟨⟨k, b⟩, ho⟩ := Option.isSome_iff_exists.mp (s.txValid_eq_isSome.symm.trans hvalid)
  have hoffered : ∀ {k' b'}, s.txOffer = some (k', b') → k = k' ∧ b = b' := fun ho' => by
    simpa using ho.symm.trans ho'
  refine ⟨_, k, b, exec_txack_offer ho, (outputs_of_offer ho).2, by simp, fun hv => ?_, fun _ => by simp,
    fun hv hm => ?_, fun hv hm => ?_, by simp [Pwm], by simp, by simp [Sampler], by simp, by simp, by simp [Surroundings]⟩
  · obtain ⟨hk, hb⟩ := hoffered (State.txOffer_full hv)
    exact ⟨hk, hb, by simp, by simp [Sequencing, State.taken_full hv]⟩
  · obtain ⟨hk, hb⟩ := hoffered (State.txOffer_dump hv hm)
    exact ⟨hk, hb, fun hi => by simp [State.taken_dump_last hv hm hi],
      fun hi => by simp [State.taken_dump_more hv hm hi]⟩
  · obtain ⟨hk, hb⟩ := hoffered (State.txOffer_hello hv hm)
    exact ⟨hk, hb ▸ List.getElem?_eq_getElem _, fun hi => by simp [State.taken_hello_last hv hm hi],
      fun hi => by simp [State.taken_hello_more hv hm hi]⟩

/-! ### What a cycle leaves of an offer -/

section Offer

variable {p : Params} {b : Block p} {inp : Inputs}

@[simp] theorem Block.tick_fwdValid : b.tick.fwdValid = b.fwdValid := rfl

@[simp] theorem Block.tick_fwdData : b.tick.fwdData = b.fwdData := rfl

@[simp] theorem Block.tick_idx : b.tick.idx = b.idx := rfl

/-- A conversion leaves a full slot alone (R75). -/
theorem Block.conv_full (r : Byte) (hv : b.fwdValid = true) :
    (b.conv r).fwdValid = true ∧ (b.conv r).fwdData = b.fwdData := by
  unfold Block.conv
  split <;> simp [hv]

theorem Block.sends_eq_false (b : Block p) (htx : inp.txReady = false) : b.sends inp = false := by
  simp [Block.sends, htx]

/-- Where no byte is sent, the slot changes only by a conversion that finds it empty (R74, R75). -/
theorem Block.step_slot (h : inp.rst = false) (htx : inp.txReady = false)
    (hkeep : b.fwdValid = true ∨ inp.convDone = false) :
    (b.step inp).fwdValid = b.fwdValid ∧ (b.step inp).fwdData = b.fwdData := by
  have hbefore : (b.beforeRx inp).fwdValid = b.fwdValid ∧ (b.beforeRx inp).fwdData = b.fwdData := by
    rcases hkeep with hv | hc
    · simp [Block.beforeRx, b.sends_eq_false htx, apply_ite Block.fwdValid, apply_ite Block.fwdData, Block.conv_full, hv]
    · simp [Block.beforeRx, b.sends_eq_false htx, apply_ite Block.fwdValid, apply_ite Block.fwdData, hc]
  rw [b.step_eq_rx h]
  split <;> simp [hbefore]

/-- Without a received byte the dispatcher moves only when its own byte is sent (R97). -/
theorem Block.beforeRx_sequencing (hown : inp.txReady = false ∨ b.fwdValid = true) :
    (b.beforeRx inp).mode = b.mode ∧ (b.beforeRx inp).idx = b.idx := by
  have hidx : (b.beforeRx inp).idx = if b.sends inp then b.txack.idx else b.idx := by
    simp [Block.beforeRx, apply_ite Block.idx]
  rw [hidx, Block.beforeRx_mode]
  rcases hown with htx | hv
  · simp [b.sends_eq_false htx]
  · simp [Block.txack_full hv]

end Offer

/-- A waiting forwarded byte waits on while the transport does not take it (R98). -/
theorem step_full_unsent {s : State} (h : s.inputs.rst = false) (htx : s.inputs.txReady = false)
    (hv : s.fwdValid = true) : ∃ t, step s = .next t ∧ t.fwdValid = true ∧ t.fwdData = s.fwdData := by
  obtain ⟨hvalid, hdata⟩ := Block.step_slot (b := s.block) h htx (.inl hv)
  exact ⟨_, step_advance h, hvalid.trans hv, hdata⟩

/-- A response waits on while the transport does not take its byte, and only a conversion changes what it offers (R98). -/
theorem step_response_unsent {s : State} (h : s.inputs.rst = false) (htx : s.inputs.txReady = false)
    (hm : s.mode = .dump ∨ s.mode = .hello) :
    ∃ t, step s = .next t ∧ t.params = s.params ∧ Sequencing s t
      ∧ (t.fwdValid ≠ s.fwdValid ∨ t.reading ≠ s.reading → s.inputs.convDone = true) := by
  have hstep : s.block.step s.inputs = s.block.beforeRx s.inputs := Block.step_without_rx h (.inr hm)
  refine ⟨_, step_advance h, rfl, ?_, fun hne => ?_⟩
  · rw [hstep]
    exact Block.beforeRx_sequencing (.inl htx)
  · by_contra hc
    rw [Bool.not_eq_true] at hc
    rcases hne with hne | hne
    · exact hne (Block.step_slot (b := s.block) h htx (.inr hc)).1
    · exact hne ((congrArg Block.reading hstep).trans (by simp [hc]))

/-- Settles O27: a full slot stays as it is; a response stays where it is, and its byte gives way to a forward or, in `DUMP`, to a
new reading. -/
theorem offerStandsUntilTaken : Obligations.OfferStandsUntilTaken := by
  intro s hvalid htx h
  have hsent : ∀ {t}, step s = .next t → sentBytes t.trace = sentBytes s.trace := fun ht => by
    simpa [htx] using step_sentBytes h ht
  cases hv : s.fwdValid with
  | true =>
    obtain ⟨t, ht, hvt, hdata⟩ := step_full_unsent h htx hv
    refine ⟨t, ht, by simp [State.txValid, hvt], hsent ht, fun hne => ?_⟩
    simp [State.outputs, State.txOffer_full hv, State.txOffer_full hvt, hdata] at hne
  | false =>
    have hm := response_of_txValid hv hvalid
    obtain ⟨t, ht, hp, ⟨hmode, hidx⟩, hconv⟩ := step_response_unsent h htx hm
    refine ⟨t, ht, by rcases hm with hm | hm <;> simp [State.txValid, hmode, hm], hsent ht, fun hne => ⟨rfl, ?_⟩⟩
    cases htf : t.fwdValid with
    | true => exact ⟨hconv (.inl (by simp [htf, hv])), .inl rfl⟩
    | false =>
      rcases hm with hm | hm
      · have hreading : t.reading ≠ s.reading := by
          simpa [State.outputs, State.txOffer_dump hv hm, State.txOffer_dump htf (hmode.trans hm)] using hne
        exact ⟨hconv (.inr hreading), .inr ⟨hm, hreading⟩⟩
      · simp [State.outputs, State.txOffer_hello hv hm, State.txOffer_hello htf (hmode.trans hm), hp, hidx] at hne

/-- Settles O28: whatever step filled the slot, a full one is what the port shows, sends and keeps. -/
theorem forwardedByteIsTheNextOut : Obligations.ForwardedByteIsTheNextOut := by
  intro _ t _ hv
  obtain ⟨hvalid, hdata⟩ := outputs_of_offer (State.txOffer_full hv)
  obtain ⟨u, hu, -⟩ := step_surroundings t
  refine ⟨hvalid, hdata, u, hu, fun h htx => ⟨?_, fun hrx => ?_⟩, fun h htx => ⟨?_, ?_⟩⟩
  · simpa [hvalid, hdata, htx] using step_sentBytes h hu
  · obtain rfl := Host.Outcome.next.inj ((step_advance h).symm.trans hu)
    rw [Block.step_without_rx h (.inl hrx)]
    exact Block.beforeRx_sequencing (.inr hv)
  · simpa [htx] using step_sentBytes h hu
  · obtain ⟨u', hu', hvu, hkept⟩ := step_full_unsent h htx hv
    obtain rfl := Host.Outcome.next.inj (hu'.symm.trans hu)
    exact (outputs_of_offer (State.txOffer_full hvu)).2.trans (congrArg some hkept)

end Sys2Proof.Machine
end

section
/-! SUPPORT. Proofs of the statements of spec/60_exceptions.md: nothing faults and every run goes on (R105, R119), and each strobe
is one event (R110). -/

namespace Sys2Proof.Machine

open Sys2Proof Sys2Proof.Safety Sys2Proof.Frame

/-! ### Nothing faults -/

/-- Settles O40: that an operation, a step and a run answer next states is said with what they leave around the block. -/
theorem nothingFaults : Obligations.NothingFaults := by
  refine ⟨fun i s => ?_, fun s => ⟨?_, fun n => ?_⟩⟩
  · obtain ⟨t, he, -⟩ := exec_surroundings i s
    exact ⟨t, he⟩
  · obtain ⟨t, hs, -⟩ := step_surroundings s
    exact ⟨t, hs⟩
  · obtain ⟨t, hr, -⟩ := parametersAreFixed n s
    exact ⟨t, hr⟩

/-! ### What a strobe adds to the record -/

/-- The result an operation latches, if it is a conversion (R71). -/
def latchedResult : Instr → Option Byte
  | .conv r => some r
  | .tick | .rx _ | .txack | .reset | .dump | .hello | .setduty | .nop _ | .dutyarg _ => none

section StrobeLines

variable {p : Params} (b : Block p)

/-- A `TICK` writes one level, and no other event writes any. -/
theorem Block.length_pwmLevels_lines (i : Instr) : (pwmLevels (b.lines i)).length = [i].count .tick := by
  cases i with
  | rx d => rcases b.lines_rx_cases d with h | h <;> rw [h] <;> rfl
  | txack => rcases b.lines_txack_cases with ⟨k, c, -, h⟩ | ⟨-, h⟩ <;> rw [h] <;> rfl
  | tick | conv | reset | dump | hello | setduty | nop | dutyarg => rfl

theorem Block.length_pwmLevels_record (ops : List Instr) :
    (pwmLevels (b.record ops)).length = ops.count .tick := by
  induction ops generalizing b with
  | nil => rfl
  | cons i is ih =>
    rw [Block.record, pwmLevels_append, List.length_append, b.length_pwmLevels_lines, ih, ← List.count_append,
      List.singleton_append]

/-- A `CONV` latches its result, and no other event latches any. -/
theorem Block.conversions_lines (i : Instr) : conversions (b.lines i) = (latchedResult i).toList := by
  cases i with
  | rx d => rcases b.lines_rx_cases d with h | h <;> rw [h] <;> rfl
  | txack => rcases b.lines_txack_cases with ⟨k, c, -, h⟩ | ⟨-, h⟩ <;> rw [h] <;> rfl
  | tick | conv | reset | dump | hello | setduty | nop | dutyarg => rfl

theorem Block.conversions_record (ops : List Instr) :
    conversions (b.record ops) = ops.filterMap latchedResult := by
  induction ops generalizing b with
  | nil => rfl
  | cons i is ih =>
    rw [Block.record, conversions_append, b.conversions_lines, ih]
    cases h : latchedResult i <;> simp [h]

end StrobeLines

/-- A cycle holds one `TICK` where `tick` = 1, and else none. -/
theorem count_tick_cycleOps {s : State} (h : s.inputs.rst = false) :
    s.cycleOps.count .tick = if s.inputs.tick = true then 1 else 0 := by
  simp [cycleOps_of_no_reset h, apply_ite (List.count Instr.tick)]

/-- A cycle holds one `CONV`, of the result on `adc_data`, where `conv_done` = 1, and else none. -/
theorem latchedResults_cycleOps {s : State} (h : s.inputs.rst = false) :
    s.cycleOps.filterMap latchedResult = if s.inputs.convDone = true then [s.inputs.adcData] else [] := by
  simp [cycleOps_of_no_reset h, apply_ite (List.filterMap latchedResult), List.filterMap_cons, latchedResult]

/-! ### What a strobe does to the registers -/

section StrobeRegisters

variable {p : Params} (b : Block p)

/-- From `K` back to 0, below it one more: one modulo `K + 1` (R72, R73). -/
theorem Block.conv_decCount (r : Byte) : (b.conv r).decCount = (b.decCount + 1) % (p.K + 1) := by
  have hle := b.decCount_le
  by_cases hK : b.decCount = p.K
  · unfold Block.conv
    rw [dif_pos hK, hK, Nat.mod_self]
    split <;> rfl
  · rw [Block.conv_below r hK, Nat.mod_eq_of_lt (by omega)]

variable {inp : Inputs}

/-- A register that a received byte does not write stands after the edge as it did before the byte. -/
theorem Block.step_eq_beforeRx {α : Type} (f : Block p → α) (hrx : ∀ (c : Block p) (d : Byte), f (c.rx d) = f c)
    (h : inp.rst = false) : f (b.step inp) = f (b.beforeRx inp) := by
  rw [b.step_eq_rx h]
  split <;> simp [hrx]

theorem Block.step_phase (h : inp.rst = false) :
    (b.step inp).phase.toNat = (b.phase.toNat + if inp.tick = true then 1 else 0) % 256 := by
  rw [b.step_eq_beforeRx Block.phase Block.rx_phase h, Block.beforeRx_phase]
  split
  · simp
  · exact (Nat.mod_eq_of_lt b.phase.isLt).symm

theorem Block.step_pwmOut_without_tick (h : inp.rst = false) (htick : inp.tick = false) :
    (b.step inp).pwmOut = b.pwmOut := by
  rw [b.step_eq_beforeRx Block.pwmOut Block.rx_pwmOut h]
  simp [Block.beforeRx, htick, apply_ite Block.pwmOut]

theorem Block.step_reading (h : inp.rst = false) :
    (b.step inp).reading = if inp.convDone = true then inp.adcData else b.reading := by
  rw [b.step_eq_beforeRx Block.reading Block.rx_reading h, Block.beforeRx_reading]

theorem Block.step_decCount (h : inp.rst = false) :
    (b.step inp).decCount = (b.decCount + if inp.convDone = true then 1 else 0) % (p.K + 1) := by
  have hle := b.decCount_le
  rw [b.step_eq_beforeRx Block.decCount Block.rx_decCount h]
  cases hconv : inp.convDone with
  | true => simp [Block.beforeRx, hconv, Block.conv_decCount, apply_ite Block.decCount, Block.tick]
  | false =>
    rw [if_neg Bool.false_ne_true, Nat.add_zero, Nat.mod_eq_of_lt (by omega)]
    simp [Block.beforeRx, hconv, apply_ite Block.decCount, Block.tick]

end StrobeRegisters

/-- Settles O36: the strobes alone decide the cycle's `TICK` and `CONV`, and no other event of the cycle writes these registers
or these lines of the record. -/
theorem everyStrobeIsOneEvent : Obligations.EveryStrobeIsOneEvent := by
  intro s h
  refine ⟨_, step_advance h, s.block.step_phase h, ?_, s.block.step_pwmOut_without_tick h, ?_, s.block.step_reading h,
    s.block.step_decCount h⟩
  · have hlevels := (s.block.length_pwmLevels_record s.cycleOps).trans (count_tick_cycleOps h)
    simp [State.advance, hlevels]
  · have hresults := (s.block.conversions_record s.cycleOps).trans (latchedResults_cycleOps h)
    simp [State.advance, hresults]

end Sys2Proof.Machine
end

section
/-! SUPPORT. Proofs of the statements of spec/70_reset_and_hazards.md: reset (R120, R121, R122) and the latencies (R135). -/

namespace Sys2Proof.Machine

open Sys2Proof Sys2Proof.Safety Sys2Proof.Frame

/-! ### Latencies -/

section Latency

variable {p : Params} {b : Block p} {inp : Inputs}

/-- A conversion at `K` leaves the slot full, whether it fills it or finds it full (R72, R74, R75). -/
theorem Block.conv_forwards (r : Byte) (hK : b.decCount = p.K) : (b.conv r).fwdValid = true := by
  unfold Block.conv
  rw [dif_pos hK]
  split
  · assumption
  · rfl

/-- `DUMP` and `HELLO` start a response (R82, R83). -/
theorem Block.rx_response {d : Byte} (hm : b.mode = .idle) (hd : d = 0x01 ∨ d = 0x02) :
    (b.rx d).mode = .dump ∨ (b.rx d).mode = .hello := by
  rcases hd with rfl | rfl
  · exact .inl (by simp [Block.rx, hm])
  · exact .inr (by simp [Block.rx, hm])

/-- A forward fills the slot at its edge, whatever else happens there. -/
theorem Block.step_forwards (h : inp.rst = false) (hc : inp.convDone = true) (hK : b.decCount = p.K) :
    (b.step inp).fwdValid = true := by
  rw [b.step_eq_beforeRx Block.fwdValid Block.rx_fwdValid h]
  unfold Block.beforeRx
  rw [if_pos hc]
  exact Block.conv_forwards inp.adcData (by simp [apply_ite Block.decCount, Block.tick, hK])

/-- A command that has a response starts it at the edge at which it is taken. -/
theorem Block.step_response (h : inp.rst = false) (hm : b.mode = .idle) (hrx : inp.rxValid = true)
    (hd : inp.rxData = 0x01 ∨ inp.rxData = 0x02) : (b.step inp).mode = .dump ∨ (b.step inp).mode = .hello := by
  have hwait : (b.beforeRx inp).mode = .idle := (Block.beforeRx_mode_waiting inp (.inl hm)).trans hm
  have hstep : b.step inp = (b.beforeRx inp).rx inp.rxData := by simp [b.step_eq_rx h, hrx, hm]
  exact hstep ▸ Block.rx_response hwait hd

end Latency

/-- A response offers its next byte even if no byte waits in the slot (R26). -/
theorem txValid_of_response {s : State} (hm : s.mode = .dump ∨ s.mode = .hello) : s.txValid = true := by
  rcases hm with hm | hm <;> simp [State.txValid, hm]

/-- The last byte of a response, once taken, makes the dispatcher ready again (R90). -/
theorem rxReady_of_last_taken {s t : State} (h : s.inputs.rst = false) (ht : step s = .next t)
    (hv : s.fwdValid = false) (htx : s.inputs.txReady = true)
    (hlast : s.mode = .dump ∧ s.idx = 1 ∨ s.mode = .hello ∧ s.idx = s.params.greetLen - 1) :
    t.outputs.rxReady = true := by
  obtain ⟨-, t', ht', -, hready⟩ := oneCommandAtATime s (hlast.imp And.left And.left)
  obtain rfl := Host.Outcome.next.inj (ht.symm.trans ht')
  exact (hready h htx hv hlast).2

/-- Settles O43: the outputs are functions of the registers, and each event has written its registers by the end of its edge. -/
theorem latencyIsOneCycle : Obligations.LatencyIsOneCycle := by
  intro s h
  have ht := step_advance h
  refine ⟨_, ht, fun htick => ?_, fun hc hK => ?_, fun hm hrx hd => ?_, fun hm hrx => ?_,
    fun hm hi hv htx => rxReady_of_last_taken h ht hv htx (.inl ⟨hm, hi⟩),
    fun hm hi hv htx => rxReady_of_last_taken h ht hv htx (.inr ⟨hm, hi⟩)⟩
  · exact (s.block.step_pwmOut h htick).trans (comparator_eq s.phase s.setpoint)
  · have hfull : (s.block.step s.inputs).fwdValid = true := Block.step_forwards h hc hK
    exact (outputs_of_offer (State.txOffer_full hfull)).1
  · exact txValid_of_response (Block.step_response (b := s.block) h hm hrx hd)
  · exact (s.block.step_setpoint h).trans (if_pos ⟨hrx, hm⟩)

/-! ### Reset -/

theorem atReset_resetRegisters (s : State) : AtReset s.resetRegisters :=
  ⟨rfl, rfl, rfl, rfl, rfl, rfl, rfl, rfl, rfl, rfl⟩

theorem cycleOps_of_reset {s : State} (h : s.inputs.rst = true) : s.cycleOps = [.reset] :=
  decodeCycle_reset _ _ h

theorem reset_mem_cycleOps (s : State) : Instr.reset ∈ s.cycleOps ↔ s.inputs.rst = true := by
  cases h : s.inputs.rst with
  | true => simp [cycleOps_of_reset h]
  | false => simp [cycleOps_of_no_reset h]

/-- Settles O30: the reset values read nothing of the state, and a cycle with `rst` is that one operation. -/
theorem resetOverridesEverything : Obligations.ResetOverridesEverything :=
  ⟨fun s => ⟨_, rfl, atReset_resetRegisters s, rfl, rfl, rfl, rfl⟩,
    fun s => ⟨reset_mem_cycleOps s, fun h =>
      ⟨cycleOps_of_reset h, _, step_reset h, atReset_resetRegisters s.sampled, rfl⟩⟩⟩

/-- The outputs of a block at reset: nothing is offered, and a byte can be received (R121). -/
theorem outputs_of_atReset {t : State} (h : AtReset t) : t.outputs = ⟨true, false, none, false, false⟩ := by
  obtain ⟨-, -, -, -, hpin, hv, -, hovr, hm, -⟩ := h
  simp [State.outputs, State.rxReady, State.txValid, State.txOffer_none hv (.inl hm), hpin, hv, hovr, hm]

/-- Settles O31: all of it is read off the reset values, and a byte received in `IDLE` is a command. -/
theorem outputsAfterReset : Obligations.OutputsAfterReset := fun s h =>
  ⟨_, step_reset h, outputs_of_atReset (atReset_resetRegisters s.sampled), rfl, rfl, fun b => received_idle b rfl⟩

end Sys2Proof.Machine
end
